-- ==== Sys2Proof/Word.lean ====
section
/-! DEFINITION. The word types of the Bemfort 4808: what the manual adds with wrapping, masks or sends as bytes. -/

namespace Sys2Proof

/-- A byte of the array, of a frame or of a payload. -/
abbrev Byte := BitVec 8

/-- A bucket: 40 bits, wrapping (R17). -/
abbrev Bucket := BitVec 40

/-- A live or committed version: 48 bits, wrapping (R22). -/
abbrev Version := BitVec 48

/-- A channel mask, channel n at bit n (R171). -/
abbrev ChannelMask := BitVec 8

/-- A set of notice kinds, kind n at bit n (R171). -/
abbrev NoticeSet := BitVec 8

/-- A bucket mask, T0 at bit 0 to T3 at bit 3 (R180). -/
abbrev BucketMask := BitVec 4

end Sys2Proof
end

