-- ==== Sys2Proof/Config.lean ====
section
/-! DEFINITION. The limits the spec fixes for the part, and the free values: what the spec leaves unknown. -/

namespace Sys2Proof

namespace Config

/-- The pending count's maximum (R10). -/
def maxPending : Nat := 255

/-- The lost-edge count's maximum (R10), and the discarded-frame count's (R159). -/
def maxCount16 : Nat := 65535

/-- The uncommitted delta's maximum, 2^48 - 1 (R21). -/
def maxDelta : Nat := 2 ^ 48 - 1

/-- A bucket wraps at 2^40 (R17). -/
def bucketModulus : Nat := 2 ^ 40

/-- The notice count's maximum (R146). -/
def maxNoticeCount : Nat := 255

/-- The erase count at which a ring sector is WORN (R93). -/
def wornCount : Nat := 100000

/-- The limit of configuration generations (R107). -/
def maxGeneration : Nat := 200000

/-- The free record slots an ordinary attempt needs: its own and the reserve of 16 (R69). -/
def ordinaryMinimum : Nat := 17

/-- The ring sectors that must not be WORN for the store not to be EXHAUSTED (R81). -/
def fewestSectors : Nat := 4

/-- Attempts of one commit job or copy (R74). -/
def maxAttempts : Nat := 3

/-- Erases of one ERASE phase (R92). -/
def maxErases : Nat := 3

/-- Ticks of the TSEL and SVC filters (R30, R112). -/
def lineFilterTicks : Nat := 20

/-- Ticks of PFAIL inactivity that end RETAIN (R129). -/
def resumeTicks : Nat := 10

/-- Ticks of the inter-byte gap timeout (R157). -/
def gapTicks : Nat := 5

/-- Ticks of one second event (R1). -/
def ticksPerSecond : Nat := 1000

/-- Places of the request queue (R158). -/
def maxRequests : Nat := 4

/-- The link's credits (R160). -/
def maxCredits : Nat := 6

/-- A byte an array operation left unknown, the `n`-th drawn (R59, R60, R61; log 8: DESIGN CHOICE). FREE VALUE. -/
opaque freeByte : Nat → Byte

/-- A sector number, the `n`-th drawn, that the spec does not state (log 9: DESIGN CHOICE). FREE VALUE. -/
opaque freeSectorNumber : Nat → Nat

end Config

end Sys2Proof
end

