-- ==== Sys2Proof/Syntax.lean ====
section
/-! DEFINITION. The commands of the Bemfort 4808, one constructor for each row of the opcode table, and the small types
their operands are made of. -/

namespace Sys2Proof

/-- A level at a pin. -/
inductive Level where
  | low
  | high
deriving DecidableEq, Repr

/-- The eight channels (00, Conventions). -/
inductive Channel where
  | ch0
  | ch1
  | ch2
  | ch3
  | ch4
  | ch5
  | ch6
  | ch7
deriving DecidableEq, Repr

namespace Channel

/-- The channel's number. -/
def toNat : Channel → Nat
  | .ch0 => 0
  | .ch1 => 1
  | .ch2 => 2
  | .ch3 => 3
  | .ch4 => 4
  | .ch5 => 5
  | .ch6 => 6
  | .ch7 => 7

/-- All channels in ascending order. -/
def all : List Channel := [.ch0, .ch1, .ch2, .ch3, .ch4, .ch5, .ch6, .ch7]

/-- The channel of a number, none above 7. -/
def ofNat? : Nat → Option Channel
  | 0 => some .ch0
  | 1 => some .ch1
  | 2 => some .ch2
  | 3 => some .ch3
  | 4 => some .ch4
  | 5 => some .ch5
  | 6 => some .ch6
  | 7 => some .ch7
  | _ => none

end Channel

/-- The four tariffs (R27). -/
inductive Tariff where
  | t0
  | t1
  | t2
  | t3
deriving DecidableEq, Repr

namespace Tariff

/-- The tariff's number. -/
def toNat : Tariff → Nat
  | .t0 => 0
  | .t1 => 1
  | .t2 => 2
  | .t3 => 3

/-- The tariff of a number, none above 3. -/
def ofNat? : Nat → Option Tariff
  | 0 => some .t0
  | 1 => some .t1
  | 2 => some .t2
  | 3 => some .t3
  | _ => none

end Tariff

/-- One value for each channel. -/
structure PerChannel (α : Type) where
  c0 : α
  c1 : α
  c2 : α
  c3 : α
  c4 : α
  c5 : α
  c6 : α
  c7 : α
deriving DecidableEq, Repr

namespace PerChannel

variable {α : Type}

/-- The same value for every channel. -/
def all (a : α) : PerChannel α := ⟨a, a, a, a, a, a, a, a⟩

/-- The value of one channel. -/
def get (v : PerChannel α) : Channel → α
  | .ch0 => v.c0
  | .ch1 => v.c1
  | .ch2 => v.c2
  | .ch3 => v.c3
  | .ch4 => v.c4
  | .ch5 => v.c5
  | .ch6 => v.c6
  | .ch7 => v.c7

/-- One channel's value replaced. -/
def set (v : PerChannel α) (c : Channel) (a : α) : PerChannel α :=
  match c with
  | .ch0 => { v with c0 := a }
  | .ch1 => { v with c1 := a }
  | .ch2 => { v with c2 := a }
  | .ch3 => { v with c3 := a }
  | .ch4 => { v with c4 := a }
  | .ch5 => { v with c5 := a }
  | .ch6 => { v with c6 := a }
  | .ch7 => { v with c7 := a }

/-- One value for each channel, made from the channel. -/
def ofFn (f : Channel → α) : PerChannel α :=
  ⟨f .ch0, f .ch1, f .ch2, f .ch3, f .ch4, f .ch5, f .ch6, f .ch7⟩

end PerChannel

/-- One value for each tariff. -/
structure PerTariff (α : Type) where
  t0 : α
  t1 : α
  t2 : α
  t3 : α
deriving DecidableEq, Repr

namespace PerTariff

variable {α : Type}

/-- The same value for every tariff. -/
def all (a : α) : PerTariff α := ⟨a, a, a, a⟩

/-- The value of one tariff. -/
def get (v : PerTariff α) : Tariff → α
  | .t0 => v.t0
  | .t1 => v.t1
  | .t2 => v.t2
  | .t3 => v.t3

/-- One tariff's value replaced. -/
def set (v : PerTariff α) (t : Tariff) (a : α) : PerTariff α :=
  match t with
  | .t0 => { v with t0 := a }
  | .t1 => { v with t1 := a }
  | .t2 => { v with t2 := a }
  | .t3 => { v with t3 := a }

end PerTariff

/-- A pin whose level the part samples: the synchronised inputs (R4) and the straps (R155, log 13: DEDUCED). -/
inductive Pin where
  | channel (c : Channel)
  | tsel0
  | tsel1
  | svc
  | pfail
  | baud0
  | baud1
deriving DecidableEq, Repr

/-- The levels of the sampled pins as the supply comes up (R4, R155). -/
structure PinLevels where
  channels : PerChannel Level
  tsel0 : Level
  tsel1 : Level
  svc : Level
  pfail : Level
  baud0 : Level
  baud1 : Level
deriving DecidableEq, Repr

/-- How a program operation's verify ends (R58, R59). -/
inductive ProgramOutcome where
  | pass
  | fail
deriving DecidableEq, Repr

/-- How an erase ends (R58, R59, R60). -/
inductive EraseOutcome where
  | pass
  | fail
  | aborted
deriving DecidableEq, Repr

/-- A command: one row of the opcode table, with its operands. The rows that are executions of a request by the executor
carry the request's tag and payload (log 10: DESIGN CHOICE). -/
inductive Instr where
  /-- POWER_ON (R132). -/
  | powerOn (levels : PinLevels)
  /-- RESET_LINE_ACTIVE (R132). -/
  | resetLineActive
  /-- RESET_RELEASE (R132). -/
  | resetRelease
  /-- SUPPLY_LOSS (R61). -/
  | supplyLoss
  /-- TICK (R1). -/
  | tick
  /-- SECOND_EVENT (R1). -/
  | secondEvent
  /-- SYNCHRONISED_LEVEL_CHANGE (R6). -/
  | synchronisedLevelChange (pin : Pin) (level : Level)
  /-- FILTERED_LEVEL_CHANGE (R5). -/
  | filteredLevelChange (channel : Channel)
  /-- TSEL_FILTERED_CHANGE (R31). -/
  | tselFilteredChange
  /-- INTERVAL_TIMER_EXPIRY (R41). -/
  | intervalTimerExpiry
  /-- SVC_FILTERED_CHANGE (R112). -/
  | svcFilteredChange
  /-- IDLE_TIMER_EXPIRY (R114). -/
  | idleTimerExpiry
  /-- PFAIL_ACTIVE (R120). -/
  | pfailActive
  /-- PFAIL_INACTIVE (R129). -/
  | pfailInactive
  /-- RESUME_TIMER_EXPIRY (R129). -/
  | resumeTimerExpiry
  /-- SCAN_READ_END (R133). -/
  | scanReadEnd
  /-- RECORD_PROGRAM_END (R73). -/
  | recordProgramEnd (outcome : ProgramOutcome)
  /-- CONFIRM_PROGRAM_END (R76). -/
  | confirmProgramEnd (outcome : ProgramOutcome)
  /-- EPOCH_PROGRAM_END (R68). -/
  | epochProgramEnd (outcome : ProgramOutcome)
  /-- COPY_READ_END (R88). -/
  | copyReadEnd
  /-- RETIRE_PROGRAM_END (R90). -/
  | retireProgramEnd (outcome : ProgramOutcome)
  /-- ERASE_END (R91). -/
  | eraseEnd (outcome : EraseOutcome)
  /-- COUNT_PROGRAM_END (R93). -/
  | countProgramEnd (outcome : ProgramOutcome)
  /-- CONFIG_ERASE_END (R109). -/
  | configEraseEnd (outcome : EraseOutcome)
  /-- IMAGE_PROGRAM_END (R109). -/
  | imageProgramEnd (outcome : ProgramOutcome)
  /-- SLOT_READ_END (R80). -/
  | slotReadEnd
  /-- REQUEST_FRAME (R158). -/
  | requestFrame (last : Byte)
  /-- GAP_TIMER_EXPIRY (R157). -/
  | gapTimerExpiry
  /-- REPLY_SENT (R166). -/
  | replySent
  /-- PING (R172). -/
  | ping (tag : Byte) (payload : List Byte)
  /-- GET_STATUS (R173). -/
  | getStatus (tag : Byte) (payload : List Byte)
  /-- READ_CHANNEL (R174). -/
  | readChannel (tag : Byte) (payload : List Byte)
  /-- READ_COMMITTED (R175). -/
  | readCommitted (tag : Byte) (payload : List Byte)
  /-- GET_STORE_MAP (R176). -/
  | getStoreMap (tag : Byte) (payload : List Byte)
  /-- READ_SLOT (R177). -/
  | readSlot (tag : Byte) (payload : List Byte)
  /-- SET_TARIFF (R178). -/
  | setTariff (tag : Byte) (payload : List Byte)
  /-- COMMIT (R179). -/
  | commit (tag : Byte) (payload : List Byte)
  /-- FETCH_NOTICE (R180). -/
  | fetchNotice (tag : Byte) (payload : List Byte)
  /-- ACK_NOTICE (R181). -/
  | ackNotice (tag : Byte) (payload : List Byte)
  /-- SET_NOTICE_MASK (R181). -/
  | setNoticeMask (tag : Byte) (payload : List Byte)
  /-- OPEN_SERVICE (R113). -/
  | openService (tag : Byte) (payload : List Byte)
  /-- CLOSE_SERVICE (R182). -/
  | closeService (tag : Byte) (payload : List Byte)
  /-- STAGE_CHANNEL (R183). -/
  | stageChannel (tag : Byte) (payload : List Byte)
  /-- STAGE_GLOBALS (R183). -/
  | stageGlobals (tag : Byte) (payload : List Byte)
  /-- READ_CONFIG (R184). -/
  | readConfig (tag : Byte) (payload : List Byte)
  /-- APPLY_CONFIG (R107). -/
  | applyConfig (tag : Byte) (payload : List Byte)
  /-- DISCARD_STAGED (R183). -/
  | discardStaged (tag : Byte) (payload : List Byte)
  /-- LOAD_TOTALS (R186). -/
  | loadTotals (tag : Byte) (payload : List Byte)
  /-- RESTART (R187). -/
  | restart (tag : Byte) (payload : List Byte)
  /-- UNKNOWN_KIND (R163). -/
  | unknownKind (kind : Byte) (tag : Byte) (payload : List Byte)
  /-- CHARACTER_RECEIVED (R156). -/
  | characterReceived (byte : Byte) (framingError : Bool)
deriving DecidableEq, Repr

end Sys2Proof
end

