-- ==== Sys2Proof/Machine/State.lean ====
section
/-! DEFINITION. The machine's state: every piece of state the spec gives the part, block by block, as plain data; the
faults and refusals; the state right after reset; one setter per block. -/

namespace Sys2Proof.Machine

/-- Why a command stops with a fault. The spec gives the part no event that stops it: what it calls a fault is a notice,
a discarded frame, a reply status or a failed job. So there is none (safe). -/
inductive Fault : Type
deriving DecidableEq, Repr

/-- Why a command is refused. -/
inductive Refusal where
  /-- Raised by exec's arms for a command that has no meaning yet. Safe. No arm does. -/
  | notModelled (mnemonic : String)
deriving DecidableEq, Repr

/-! ## Names -/

/-- The two config sectors, array sectors 0 and 1 (R57). -/
inductive ConfigSector where
  | a
  | b
deriving DecidableEq, Repr

/-- The fourteen ring sectors, array sectors 2 to 15 (R57). -/
inductive RingSector where
  | s2
  | s3
  | s4
  | s5
  | s6
  | s7
  | s8
  | s9
  | s10
  | s11
  | s12
  | s13
  | s14
  | s15
deriving DecidableEq, Repr

namespace RingSector

/-- The sector's number in the array. -/
def toNat : RingSector → Nat
  | .s2 => 2
  | .s3 => 3
  | .s4 => 4
  | .s5 => 5
  | .s6 => 6
  | .s7 => 7
  | .s8 => 8
  | .s9 => 9
  | .s10 => 10
  | .s11 => 11
  | .s12 => 12
  | .s13 => 13
  | .s14 => 14
  | .s15 => 15

/-- All ring sectors in ascending order. -/
def all : List RingSector :=
  [.s2, .s3, .s4, .s5, .s6, .s7, .s8, .s9, .s10, .s11, .s12, .s13, .s14, .s15]

/-- The ring sector after this one, none after 15. -/
def next? : RingSector → Option RingSector
  | .s2 => some .s3
  | .s3 => some .s4
  | .s4 => some .s5
  | .s5 => some .s6
  | .s6 => some .s7
  | .s7 => some .s8
  | .s8 => some .s9
  | .s9 => some .s10
  | .s10 => some .s11
  | .s11 => some .s12
  | .s12 => some .s13
  | .s13 => some .s14
  | .s14 => some .s15
  | .s15 => none

end RingSector

/-- One value for each ring sector. -/
structure PerRing (α : Type) where
  s2 : α
  s3 : α
  s4 : α
  s5 : α
  s6 : α
  s7 : α
  s8 : α
  s9 : α
  s10 : α
  s11 : α
  s12 : α
  s13 : α
  s14 : α
  s15 : α
deriving DecidableEq, Repr

namespace PerRing

variable {α : Type}

/-- The same value for every ring sector. -/
def all (x : α) : PerRing α := ⟨x, x, x, x, x, x, x, x, x, x, x, x, x, x⟩

/-- The value of one ring sector. -/
def get (v : PerRing α) : RingSector → α
  | .s2 => v.s2
  | .s3 => v.s3
  | .s4 => v.s4
  | .s5 => v.s5
  | .s6 => v.s6
  | .s7 => v.s7
  | .s8 => v.s8
  | .s9 => v.s9
  | .s10 => v.s10
  | .s11 => v.s11
  | .s12 => v.s12
  | .s13 => v.s13
  | .s14 => v.s14
  | .s15 => v.s15

/-- One ring sector's value replaced. -/
def set (v : PerRing α) (r : RingSector) (x : α) : PerRing α :=
  match r with
  | .s2 => { v with s2 := x }
  | .s3 => { v with s3 := x }
  | .s4 => { v with s4 := x }
  | .s5 => { v with s5 := x }
  | .s6 => { v with s6 := x }
  | .s7 => { v with s7 := x }
  | .s8 => { v with s8 := x }
  | .s9 => { v with s9 := x }
  | .s10 => { v with s10 := x }
  | .s11 => { v with s11 := x }
  | .s12 => { v with s12 := x }
  | .s13 => { v with s13 := x }
  | .s14 => { v with s14 := x }
  | .s15 => { v with s15 := x }

/-- One value for each ring sector, made from the sector. -/
def ofFn (f : RingSector → α) : PerRing α :=
  ⟨f .s2, f .s3, f .s4, f .s5, f .s6, f .s7, f .s8, f .s9, f .s10, f .s11, f .s12, f .s13, f .s14, f .s15⟩

end PerRing

/-- A sector of the array (R57). -/
inductive Sector where
  | config (k : ConfigSector)
  | ring (r : RingSector)
deriving DecidableEq, Repr

namespace Sector

/-- The sector's number, 0 to 15. -/
def toNat : Sector → Nat
  | .config .a => 0
  | .config .b => 1
  | .ring r => r.toNat

/-- The sector of a number, none above 15. -/
def ofNat? : Nat → Option Sector
  | 0 => some (.config .a)
  | 1 => some (.config .b)
  | 2 => some (.ring .s2)
  | 3 => some (.ring .s3)
  | 4 => some (.ring .s4)
  | 5 => some (.ring .s5)
  | 6 => some (.ring .s6)
  | 7 => some (.ring .s7)
  | 8 => some (.ring .s8)
  | 9 => some (.ring .s9)
  | 10 => some (.ring .s10)
  | 11 => some (.ring .s11)
  | 12 => some (.ring .s12)
  | 13 => some (.ring .s13)
  | 14 => some (.ring .s14)
  | 15 => some (.ring .s15)
  | _ => none

end Sector

/-- One of the two entries of the host job table (R164). Which entry a job takes is not reported (log 20: DESIGN CHOICE). -/
inductive JobSlot where
  | first
  | second
deriving DecidableEq, Repr

/-! ## Supply, pins and timebase -/

/-- The supply and the RESET line (R132, R194). -/
structure Supply where
  powered : Bool
  resetLine : Bool
deriving DecidableEq, Repr

/-- The strap inputs (R155). -/
structure Pins where
  baud1 : Level
  baud0 : Level
deriving DecidableEq, Repr

/-- The timebase (R1): crystal periods within the millisecond, ticks within the second. The divider stands below the
model's granularity (log 12: DESIGN CHOICE). -/
structure Timebase where
  divider : Nat
  second : Nat
deriving DecidableEq, Repr

/-! ## Capture unit (chapter 1) -/

/-- The capture state (R13). -/
inductive CaptureState where
  | live
  | frozen
deriving DecidableEq, Repr

/-- A channel's capture state (01, 1.2). -/
structure CaptureChannel where
  sync : Level
  run : Nat
  filtered : Level
  pending : Nat
  lost : Nat
deriving DecidableEq, Repr

/-- The capture unit. -/
structure Capture where
  state : CaptureState
  channels : PerChannel CaptureChannel
deriving DecidableEq, Repr

/-! ## Accumulation unit (chapter 2) -/

/-- A channel's totals (02, 2.1). -/
structure Account where
  buckets : PerTariff Bucket
  delta : Nat
  version : Version
deriving DecidableEq, Repr

/-- The tariff select lines' synchronised levels and filter (R30). -/
structure TselFilter where
  line1 : Level
  line0 : Level
  filtered : Tariff
  candidate : Tariff
  run : Nat
deriving DecidableEq, Repr

/-- The accumulation unit. -/
structure Accumulation where
  accounts : PerChannel Account
  tariff : Tariff
  tsel : TselFilter
deriving DecidableEq, Repr

/-! ## Commit scheduler (chapter 3) -/

/-- A cause of a commit, or of a record (R36). -/
inductive Cause where
  | interval
  | threshold
  | tariff
  | request
  | load
  | flush
  | compact
deriving DecidableEq, Repr

/-- An entry of the commit queue (R37). -/
structure QueueEntry where
  channel : Channel
  cause : Cause
  waiters : List JobSlot
deriving DecidableEq, Repr

/-- A snapshot (R25). -/
structure Snapshot where
  buckets : PerTariff Bucket
  lost : Nat
  version : Version
  delta : Nat
  tariff : Tariff
deriving DecidableEq, Repr

/-- A commit job (R47, R48). -/
structure CommitJob where
  channel : Channel
  snapshot : Snapshot
  cause : Cause
  waiters : List JobSlot
deriving DecidableEq, Repr

/-- The commit scheduler, but for the commit job in progress, which `Store.holder` holds. -/
structure Scheduler where
  queue : List QueueEntry
  headWaiting : Bool
  interval : Nat
  flushList : List Channel
deriving DecidableEq, Repr

/-! ## Record store (chapter 4) -/

/-- What an array operation is for: which of the table's rows ends it. -/
inductive Task where
  | scanRead
  | recordProgram
  | confirmProgram
  | epochProgram
  | copyRead
  | retireProgram
  | ringErase
  | countProgram
  | configErase
  | imageProgram
  | slotRead
deriving DecidableEq, Repr

/-- The array operation in progress (R58; log 18: DESIGN CHOICE): what it is for, where it acts, the bytes a program writes, and whether FLUSH
entry has aborted it (R60). -/
structure Operation where
  task : Task
  sector : Sector
  slot : Nat
  offset : Nat
  bytes : List Byte
  aborting : Bool
deriving DecidableEq, Repr

/-- A copy once its record has been read (R88): the values it writes. -/
structure CopyJob where
  channel : Channel
  target : RingSector
  tariff : Tariff
  buckets : PerTariff Bucket
  lost : Nat
deriving DecidableEq, Repr

/-- A job that holds the array between its operations (R77): a commit job, a copy still reading, a copy writing. -/
inductive WriteJob where
  | commit (job : CommitJob)
  | reading (channel : Channel) (target : RingSector)
  | copy (job : CopyJob)
deriving DecidableEq, Repr

/-- A record slot of the ring. -/
structure Location where
  sector : RingSector
  slot : Nat
deriving DecidableEq, Repr

/-- The array holder (04): the job, its failed attempts, the slot and sequence of the attempt in progress, and the sector
of its last operation that ended FAIL (R73, R74). -/
structure Hold where
  job : WriteJob
  attempts : Nat
  place : Option Location
  sequence : Nat
  fault : Option RingSector
deriving DecidableEq, Repr

/-- A ring sector's state, with the epoch and next slot where it has them (R63). -/
inductive SectorState where
  | erased
  | opened (epoch : Nat) (nextSlot : Nat)
  | filled (epoch : Nat)
  | retiring
  | spoiled
  | worn
deriving DecidableEq, Repr

/-- An entry of the ring sector table (R63). -/
structure SectorEntry where
  state : SectorState
  eraseCount : Nat
  mapRecords : Nat
deriving DecidableEq, Repr

/-- The slot and the sequence of a designated record (R75). -/
structure Designation where
  location : Location
  sequence : Nat
deriving DecidableEq, Repr

/-- An entry of the commit map (R75). -/
structure MapEntry where
  designated : Option Designation
  buckets : PerTariff Bucket
  lost : Nat
  version : Version
deriving DecidableEq, Repr

/-- The record store's working memory. -/
structure Store where
  op : Option Operation
  holder : Option Hold
  table : PerRing SectorEntry
  highestEpoch : Nat
  nextSequence : Nat
  map : PerChannel MapEntry
  exhausted : Bool
deriving DecidableEq, Repr

/-- The array's contents: (address, byte) pairs, addresses strictly rising, no FFh entry. An unlisted address reads FFh,
the erased value (R57). Address = sector × 1,024 + slot × 32 + offset. -/
abbrev Memory := List Host.Cell

/-! ## Compaction engine (chapter 5) -/

/-- The compaction state with its target, copy position (8 is past CH7) and erase attempts (R83). -/
inductive Phase where
  | idle
  | copy (target : RingSector) (position : Nat)
  | mark (target : RingSector)
  | erase (target : RingSector) (attempts : Nat)
  | count (target : RingSector)
deriving DecidableEq, Repr

/-- The compaction engine. -/
structure Engine where
  phase : Phase
  retryWait : Bool
deriving DecidableEq, Repr

/-! ## Configuration unit and service session (chapter 6) -/

/-- A channel's mode (R3). -/
inductive Mode where
  | off
  | edge
  | time
deriving DecidableEq, Repr

/-- A channel's polarity (R3). -/
inductive Polarity where
  | rising
  | falling
deriving DecidableEq, Repr

/-- The tariff source (R27). -/
inductive TariffSource where
  | host
  | lines
deriving DecidableEq, Repr

/-- A channel's settings (R100). -/
structure ChannelConfig where
  mode : Mode
  polarity : Polarity
  filter : Nat
  weight : Nat
  threshold : Nat
deriving DecidableEq, Repr

/-- The global settings (R100). -/
structure GlobalConfig where
  commitInterval : Nat
  tariffSource : TariffSource
  commitOnTariff : Bool
  idleTimeout : Nat
deriving DecidableEq, Repr

/-- A configuration (R100). -/
structure Configuration where
  channels : PerChannel ChannelConfig
  globals : GlobalConfig
deriving DecidableEq, Repr

/-- The outcome CONFIG_SCAN keeps for the CONFIG notice (R134). -/
inductive ScanOutcome where
  | bothValid
  | oneCopy
  | defaulted
deriving DecidableEq, Repr

/-- The configuration unit. -/
structure ConfigUnit where
  live : Configuration
  generation : Nat
  staged : Configuration
  liveSector : Option ConfigSector
  outcome : ScanOutcome
deriving DecidableEq, Repr

/-- The session state; the idle timer counts only while OPEN (R113, R114). -/
inductive Session where
  | closed
  | opened (idle : Nat)
deriving DecidableEq, Repr

/-- The service session; the SVC levels are true when the line is active (R112). -/
structure Service where
  session : Session
  svcSync : Bool
  svcFiltered : Bool
  svcRun : Nat
deriving DecidableEq, Repr

/-! ## Power monitor (chapter 7) -/

/-- The device state (00, Device states). -/
inductive Device where
  | start
  | run
  | flush
  | retain
deriving DecidableEq, Repr

/-- The start cause (R119). -/
inductive StartCause where
  | powerOn
  | resetLine
  | restart
deriving DecidableEq, Repr

/-- The power monitor; the PFAIL levels are true when the line is active (R118). `resume` is none while the resume timer
is stopped. `pfailRun` stands below the model's granularity (log 12: DESIGN CHOICE). -/
structure Power where
  device : Device
  pfailSync : Bool
  pfailFiltered : Bool
  pfailRun : Nat
  resume : Option Nat
  restartOwed : Bool
  startCause : StartCause
  replyWait : Bool
  notWritten : ChannelMask
deriving DecidableEq, Repr

/-! ## Notice unit (chapter 9) -/

/-- The eight notice kinds in priority order (R147). -/
inductive NoticeKind where
  | power
  | storeFault
  | storeExhausted
  | config
  | service
  | link
  | lostEdges
  | rollover
deriving DecidableEq, Repr

/-- The detail of a POWER notice (R147). -/
inductive PowerDetail where
  | started (cause : StartCause)
  | flushComplete
  | flushIncomplete (notWritten : ChannelMask)
  | resumed
deriving DecidableEq, Repr

/-- The reasons of a session close that raise SERVICE (R116). -/
inductive CloseReason where
  | line
  | timeout
  | flush
deriving DecidableEq, Repr

/-- The reasons of a frame's discard (R159). -/
inductive DiscardReason where
  | check
  | gap
  | length
  | noRoom
  | state
deriving DecidableEq, Repr

/-- A notice's detail (R147). Reason sets are bytes in the coding of R180. -/
inductive NoticeDetail where
  | empty
  | power (d : PowerDetail)
  | sector (number : Nat)
  | config (outcome : ScanOutcome)
  | reasons (set : Byte)
  | channels (mask : ChannelMask)
  | rollover (mask : ChannelMask) (buckets : BucketMask)
deriving DecidableEq, Repr

/-- A notice record (R146). -/
structure NoticeRecord where
  pending : Bool
  count : Nat
  detail : NoticeDetail
deriving DecidableEq, Repr

/-- The notice table: one record for each kind. -/
structure NoticeTable where
  power : NoticeRecord
  storeFault : NoticeRecord
  storeExhausted : NoticeRecord
  config : NoticeRecord
  service : NoticeRecord
  link : NoticeRecord
  lostEdges : NoticeRecord
  rollover : NoticeRecord
deriving DecidableEq, Repr

/-- The notice unit. -/
structure NoticeUnit where
  records : NoticeTable
  mask : NoticeSet
  armed : Bool
deriving DecidableEq, Repr

/-! ## Host link (chapter 10) -/

/-- The line rate (R155). -/
inductive LineRate where
  | r9600
  | r38400
  | r115200
  | r460800
deriving DecidableEq, Repr

/-- The receiver with its frame buffer (R156): LEN, the bytes stored from KIND on, and in CHECK the first check byte once
it has come. -/
inductive Receiver where
  | hunt
  | length
  | body (len : Nat) (stored : List Byte)
  | check (len : Nat) (stored : List Byte) (first : Option Byte)
deriving DecidableEq, Repr

/-- An admitted request (R158); its LEN is its payload's length plus 2. -/
structure Request where
  kind : Byte
  tag : Byte
  payload : List Byte
deriving DecidableEq, Repr

/-- The steps of an APPLY job's array work, next step first (R109). -/
inductive ApplyStep where
  | erase
  | program (slot : Nat)
deriving DecidableEq, Repr

/-- What an APPLY job fixes at its first step, and the step it has reached (R108). -/
structure ApplyProgress where
  target : ConfigSector
  generation : Nat
  step : ApplyStep
deriving DecidableEq, Repr

/-- A COMMIT_WAIT job's failure record (R52). -/
inductive CommitFailure where
  | storeFailed
  | storeExhausted
deriving DecidableEq, Repr

/-- A host job's kind and its own state (R164). -/
inductive JobState where
  | apply (image : Configuration) (progress : Option ApplyProgress)
  | readSlot (sector : Sector) (slot : Nat)
  | commitWait (remaining : ChannelMask) (failure : Option CommitFailure)
  | loadWait (channel : Channel)
deriving DecidableEq, Repr

/-- A host job in its entry of the table (R164). -/
structure HostJob where
  slot : JobSlot
  tag : Byte
  state : JobState
deriving DecidableEq, Repr

/-- A reply (R165): its KIND byte has bit 7 set. `Reply.frame` gives the bytes on TXD. -/
structure Reply where
  kind : Byte
  tag : Byte
  status : Byte
  payload : List Byte
deriving DecidableEq, Repr

/-- The host link. `jobs` is the host job table in acceptance order; `gap` is none while the gap timer is stopped. -/
structure HostLink where
  lineRate : LineRate
  receiver : Receiver
  gap : Option Nat
  requests : List Request
  jobs : List HostJob
  replies : List Reply
  transmitting : Bool
  credits : Nat
  discarded : Nat
deriving DecidableEq, Repr

/-! ## START's working state (chapter 8) -/

/-- Which read of which phase START has in progress (R133). -/
inductive ScanStep where
  | config (n : Nat)
  | header (r : RingSector)
  | content (r : RingSector) (slot : Nat)
  | head (r : RingSector) (epoch : Nat) (slot : Nat)
  | rebuild (r : RingSector) (slot : Nat)
  | done
deriving DecidableEq, Repr

/-- START's working state: the slots CONFIG_SCAN has read, each header's valid erase count, the highest valid epoch, and
the newest valid record's sequence and tariff. -/
structure Scan where
  step : ScanStep
  configBytes : List Byte
  counts : PerRing (Option Nat)
  highestEpoch : Nat
  newest : Option (Nat × Tariff)
deriving DecidableEq, Repr

/-! ## The state -/

/-- The whole machine. `pending` is the queue of commands that wait, first in, first out; `free` counts the free values
drawn (log 8: DESIGN CHOICE). -/
structure State where
  pending : List Instr
  supply : Supply
  pins : Pins
  timebase : Timebase
  capture : Capture
  accum : Accumulation
  sched : Scheduler
  store : Store
  array : Memory
  engine : Engine
  config : ConfigUnit
  service : Service
  power : Power
  notices : NoticeUnit
  link : HostLink
  scan : Scan
  free : Nat
deriving DecidableEq, Repr

/-! ## The values blocks start from -/

/-- The default settings of a channel (R101). -/
def ChannelConfig.default : ChannelConfig :=
  { mode := .off, polarity := .rising, filter := 2, weight := 1, threshold := 0 }

/-- The default configuration (R101). -/
def Configuration.default : Configuration :=
  { channels := PerChannel.all ChannelConfig.default
    globals := { commitInterval := 900, tariffSource := .host, commitOnTariff := true, idleTimeout := 120 } }

/-- A channel's capture state at a power-on whose first sample is `l` (R4, R132; log 16: DEDUCED for the filtered level). -/
def CaptureChannel.fresh (l : Level) : CaptureChannel :=
  { sync := l, run := 0, filtered := l, pending := 0, lost := 0 }

/-- A channel's totals at the entry into START (R132). -/
def Account.zero : Account := { buckets := PerTariff.all 0, delta := 0, version := 0 }

/-- The scheduler at the entry into START (R132). -/
def Scheduler.initial : Scheduler := { queue := [], headWaiting := false, interval := 0, flushList := [] }

/-- A ring sector table entry before RING_SCAN has set it (log 3: DESIGN CHOICE). -/
def SectorEntry.unset : SectorEntry := { state := .erased, eraseCount := 0, mapRecords := 0 }

/-- A commit-map entry of a channel with no record (R139). -/
def MapEntry.none : MapEntry := { designated := Option.none, buckets := PerTariff.all 0, lost := 0, version := 0 }

/-- The record store at the entry into START (R132; log 3: DESIGN CHOICE). -/
def Store.initial : Store :=
  { op := none, holder := none, table := PerRing.all SectorEntry.unset, highestEpoch := 0, nextSequence := 1
    map := PerChannel.all MapEntry.none, exhausted := false }

/-- The compaction engine at the entry into START (R83). -/
def Engine.initial : Engine := { phase := .idle, retryWait := false }

/-- The configuration unit at the entry into START, until CONFIG_SCAN sets it (log 3: DESIGN CHOICE). -/
def ConfigUnit.initial : ConfigUnit :=
  { live := Configuration.default, generation := 0, staged := Configuration.default, liveSector := none
    outcome := .bothValid }

/-- A clear notice record (R146). -/
def NoticeRecord.clear : NoticeRecord := { pending := false, count := 0, detail := .empty }

/-- The notice unit at the entry into START (R154). -/
def NoticeUnit.initial : NoticeUnit :=
  { records :=
      { power := NoticeRecord.clear, storeFault := NoticeRecord.clear, storeExhausted := NoticeRecord.clear
        config := NoticeRecord.clear, service := NoticeRecord.clear, link := NoticeRecord.clear
        lostEdges := NoticeRecord.clear, rollover := NoticeRecord.clear }
    mask := 0, armed := true }

/-- The host link at the entry into START, with the line rate it has (R132, R168). -/
def HostLink.initial (rate : LineRate) : HostLink :=
  { lineRate := rate, receiver := .hunt, gap := none, requests := [], jobs := [], replies := [], transmitting := false
    credits := 0, discarded := 0 }

/-- START's working state as CONFIG_SCAN begins (R133). -/
def Scan.initial : Scan :=
  { step := .config 0, configBytes := [], counts := PerRing.all none, highestEpoch := 0, newest := none }

/-- START's first read: slot 0 of config sector A (R134). -/
def Operation.firstScanRead : Operation :=
  { task := .scanRead, sector := .config .a, slot := 0, offset := 0, bytes := [], aborting := false }

/-- The machine right after reset: START has been entered at power-on with every input at its resting level and an erased
array, and its first read is in progress (R132, R133; log 1: DESIGN CHOICE, log 2: DEDUCED, log 3: DESIGN CHOICE). -/
def State.reset : State :=
  { pending := []
    supply := { powered := true, resetLine := false }
    pins := { baud1 := .low, baud0 := .low }
    timebase := { divider := 0, second := 0 }
    capture := { state := .frozen, channels := PerChannel.all (CaptureChannel.fresh .low) }
    accum :=
      { accounts := PerChannel.all Account.zero, tariff := .t0
        tsel := { line1 := .low, line0 := .low, filtered := .t0, candidate := .t0, run := 0 } }
    sched := Scheduler.initial
    store := { Store.initial with op := some Operation.firstScanRead }
    array := []
    engine := Engine.initial
    config := ConfigUnit.initial
    service := { session := .closed, svcSync := false, svcFiltered := false, svcRun := 0 }
    power :=
      { device := .start, pfailSync := false, pfailFiltered := false, pfailRun := 0, resume := none
        restartOwed := false, startCause := .powerOn, replyWait := false, notWritten := 0 }
    notices := NoticeUnit.initial
    link := HostLink.initial .r9600
    scan := Scan.initial
    free := 0 }

/-! ## One setter per block -/

namespace State

/-- The state with its `pending` replaced. -/
def setPending (s : State) (x : List Instr) : State := { s with pending := x }

/-- The state with its `supply` replaced. -/
def setSupply (s : State) (x : Supply) : State := { s with supply := x }

/-- The state with its `pins` replaced. -/
def setPins (s : State) (x : Pins) : State := { s with pins := x }

/-- The state with its `timebase` replaced. -/
def setTimebase (s : State) (x : Timebase) : State := { s with timebase := x }

/-- The state with its `capture` replaced. -/
def setCapture (s : State) (x : Capture) : State := { s with capture := x }

/-- The state with its `accum` replaced. -/
def setAccum (s : State) (x : Accumulation) : State := { s with accum := x }

/-- The state with its `sched` replaced. -/
def setSched (s : State) (x : Scheduler) : State := { s with sched := x }

/-- The state with its `store` replaced. -/
def setStore (s : State) (x : Store) : State := { s with store := x }

/-- The state with its `array` replaced. -/
def setArray (s : State) (x : Memory) : State := { s with array := x }

/-- The state with its `engine` replaced. -/
def setEngine (s : State) (x : Engine) : State := { s with engine := x }

/-- The state with its `config` replaced. -/
def setConfig (s : State) (x : ConfigUnit) : State := { s with config := x }

/-- The state with its `service` replaced. -/
def setService (s : State) (x : Service) : State := { s with service := x }

/-- The state with its `power` replaced. -/
def setPower (s : State) (x : Power) : State := { s with power := x }

/-- The state with its `notices` replaced. -/
def setNotices (s : State) (x : NoticeUnit) : State := { s with notices := x }

/-- The state with its `link` replaced. -/
def setLink (s : State) (x : HostLink) : State := { s with link := x }

/-- The state with its `scan` replaced. -/
def setScan (s : State) (x : Scan) : State := { s with scan := x }

/-- The state with its `free` replaced. -/
def setFree (s : State) (x : Nat) : State := { s with free := x }

end State

end Sys2Proof.Machine
end

