-- ==== Sys2Proof/Machine/Bytes.lean ====
section
/-! DEFINITION. Byte order, the check values, the byte masks and the sizes of slots and sectors (chapter 12; R57, R171, R188,
R189). -/

namespace Sys2Proof.Machine

/-- `n` bytes of `v`, least significant byte first (R171). -/
def leBytes : Nat → Nat → List Byte
  | 0, _ => []
  | n + 1, v => BitVec.ofNat 8 v :: leBytes n (v / 256)

/-- The number that bytes carry, least significant byte first (R171). -/
def leNat : List Byte → Nat
  | [] => 0
  | b :: bs => b.toNat + 256 * leNat bs

/-- `n` bytes of `bs` from offset `off` on. -/
def slice (bs : List Byte) (off n : Nat) : List Byte := (bs.drop off).take n

/-- The number in the `n` bytes of `bs` from offset `off` on. -/
def field (bs : List Byte) (off n : Nat) : Nat := leNat (slice bs off n)

/-- One bit's step of the CRC register, generator 1021h (R188). -/
def crcBit (r : BitVec 16) : BitVec 16 := if r.msb then (r <<< 1) ^^^ 0x1021#16 else r <<< 1

/-- One byte's step of the CRC register, most significant bit first (R188). -/
def crcByte (r : BitVec 16) (b : Byte) : BitVec 16 :=
  crcBit (crcBit (crcBit (crcBit (crcBit (crcBit (crcBit (crcBit (r ^^^ (b.setWidth 16 <<< 8)))))))))

/-- The CRC of bytes; the register starts at FFFFh (R188). -/
def crc16 (bs : List Byte) : BitVec 16 := bs.foldl crcByte 0xFFFF#16

/-- The CRC's two bytes, low byte first (R188). -/
def crcBytes (bs : List Byte) : List Byte := leBytes 2 (crc16 bs).toNat

/-- The 8-bit check of a header field's value bytes: their exclusive-or with 5Ah (R189). -/
def fieldCheck (bs : List Byte) : Byte := bs.foldl (· ^^^ ·) 0x5A#8

/-- The yes-or-no byte (R171). -/
def boolByte (b : Bool) : Byte := if b then 1 else 0

/-- The channel mask of one channel (R171). -/
def channelBit (c : Channel) : ChannelMask := BitVec.ofNat 8 (2 ^ c.toNat)

/-- Whether a channel is in a mask (R171). -/
def inMask (m : ChannelMask) (c : Channel) : Bool := m.getLsbD c.toNat

/-- The channels of a mask, ascending. -/
def maskChannels (m : ChannelMask) : List Channel := Channel.all.filter (inMask m)

/-- The mask of a list of channels. -/
def maskOf (cs : List Channel) : ChannelMask := cs.foldl (fun m c => m ||| channelBit c) 0

/-- A mask without a channel. -/
def maskWithout (m : ChannelMask) (c : Channel) : ChannelMask := m &&& ~~~ channelBit c

/-- The bucket mask of one tariff (R180). -/
def tariffBit (t : Tariff) : BucketMask := BitVec.ofNat 4 (2 ^ t.toNat)

/-- Bytes of a slot (R57). -/
def slotSize : Nat := 32

/-- Bytes of a sector (R57). -/
def sectorSize : Nat := 1024

/-- Whether every byte reads FFh. -/
def allFF (bs : List Byte) : Bool := bs.all (· == 0xFF#8)

end Sys2Proof.Machine
end

