-- ==== Sys2Proof/Machine/Layouts.lean ====
section
/-! DEFINITION. The byte layouts in the array: total records, ring sector headers, configuration images
(R62, R70, R71, R104, R188, R189, R191, R192), and the codes of settings (R171). -/

namespace Sys2Proof.Machine

/-! ## Total records (R70, R71, R191) -/

/-- A cause's code in a record (R191). -/
def Cause.code : Cause → Nat
  | .interval => 1
  | .threshold => 2
  | .tariff => 3
  | .request => 4
  | .load => 5
  | .flush => 6
  | .compact => 7

/-- The cause of a code, none for an unknown one (R191). -/
def Cause.ofCode? : Nat → Option Cause
  | 1 => some .interval
  | 2 => some .threshold
  | 3 => some .tariff
  | 4 => some .request
  | 5 => some .load
  | 6 => some .flush
  | 7 => some .compact
  | _ => none

/-- What a total record holds, less its sequence (R70). -/
structure RecordContent where
  channel : Channel
  cause : Cause
  tariff : Tariff
  buckets : PerTariff Bucket
  lost : Nat
deriving DecidableEq, Repr

/-- Four buckets in 5 bytes each, T0 first (R171, R191). -/
def bucketBytes (b : PerTariff Bucket) : List Byte :=
  leBytes 5 b.t0.toNat ++ leBytes 5 b.t1.toNat ++ leBytes 5 b.t2.toNat ++ leBytes 5 b.t3.toNat

/-- Four buckets read from 5 bytes each, from an offset on (R171, R191). -/
def readBuckets (bs : List Byte) (off : Nat) : PerTariff Bucket :=
  { t0 := BitVec.ofNat 40 (field bs off 5), t1 := BitVec.ofNat 40 (field bs (off + 5) 5)
    t2 := BitVec.ofNat 40 (field bs (off + 10) 5), t3 := BitVec.ofNat 40 (field bs (off + 15) 5) }

/-- Bytes 0 to 28 of a record, which its CRC covers (R188, R191); the format version is 1 (R70). -/
def recordBody (r : RecordContent) (sequence : Nat) : List Byte :=
  leBytes 1 r.channel.toNat ++ leBytes 4 sequence ++ leBytes 1 r.cause.code ++ leBytes 1 (r.tariff.toNat + 16) ++
    bucketBytes r.buckets ++ leBytes 2 r.lost

/-- Bytes 0 to 30, which the record program writes; it leaves the confirm mark at FFh (R191; log 23: DEDUCED). -/
def recordBytes (r : RecordContent) (sequence : Nat) : List Byte :=
  recordBody r sequence ++ crcBytes (recordBody r sequence)

/-- Where the confirm mark stands in a slot (R191). -/
def confirmOffset : Nat := 31

/-- A record as read from its slot: its content and its sequence. -/
structure ReadRecord where
  content : RecordContent
  sequence : Nat
deriving DecidableEq, Repr

/-- The record that a slot's 32 bytes hold by the tests on the bytes alone: confirm mark 00h, CRC, channel and known cause
(R71). The test of the sector's state is the caller's. -/
def parseRecord (bs : List Byte) : Option ReadRecord :=
  if field bs confirmOffset 1 = 0 ∧ slice bs 29 2 = crcBytes (bs.take 29) then
    match Channel.ofNat? (field bs 0 1), Cause.ofCode? (field bs 5 1), Tariff.ofNat? (field bs 6 1 % 4) with
    | some c, some k, some t =>
      some { content := { channel := c, cause := k, tariff := t, buckets := readBuckets bs 7, lost := field bs 27 2 }
             sequence := field bs 1 4 }
    | _, _, _ => none
  else none

/-! ## Ring sector headers (R62, R189) -/

/-- How a header field with a check reads (R62). -/
inductive FieldReading where
  | unwritten
  | valid (value : Nat)
  | broken
deriving DecidableEq, Repr

/-- A field of `n` value bytes and its check, read from an offset of a header (R62, R189). -/
def readField (bs : List Byte) (off n : Nat) : FieldReading :=
  if allFF (slice bs off (n + 1)) then .unwritten
  else if slice bs (off + n) 1 = [fieldCheck (slice bs off n)] then .valid (field bs off n)
  else .broken

/-- A field's bytes: its value and its check (R189). -/
def fieldBytes (n v : Nat) : List Byte := leBytes n v ++ [fieldCheck (leBytes n v)]

/-- Where the erase-count field stands in slot 0 (R189). -/
def countOffset : Nat := 0

/-- Where the epoch field stands in slot 0 (R189). -/
def epochOffset : Nat := 4

/-- Where the retire field stands in slot 0 (R189). -/
def retireOffset : Nat := 9

/-- The erase-count field of a header (R62). -/
def readCount (bs : List Byte) : FieldReading := readField bs countOffset 3

/-- The epoch field of a header (R62). -/
def readEpoch (bs : List Byte) : FieldReading := readField bs epochOffset 4

/-- Whether a header's retire field reads retired: any value but FFh (R62). -/
def readRetired (bs : List Byte) : Bool := slice bs retireOffset 1 != [0xFF#8]

/-- The erase-count field's bytes (R62, R189). -/
def countBytes (v : Nat) : List Byte := fieldBytes 3 v

/-- The epoch field's bytes (R62, R189). -/
def epochBytes (v : Nat) : List Byte := fieldBytes 4 v

/-- The valid values of header fields, none for an unwritten or broken field (R62). -/
def FieldReading.value? : FieldReading → Option Nat
  | .valid v => some v
  | _ => none

/-- How RING_SCAN's first pass places a sector: settled, or by its content (R135). -/
inductive HeaderClass where
  | settled (state : SectorState)
  | byContent
deriving DecidableEq, Repr

/-- The first line of R135's table that applies to a header. A sector in use is taken as FILLED until the second pass makes
one OPEN (R138). -/
def classifyHeader (bs : List Byte) : HeaderClass :=
  match (readCount bs).value?.any (fun v => decide (Config.wornCount ≤ v)), readRetired bs, readEpoch bs with
  | true, _, _ => .settled .worn
  | false, true, _ => .settled .retiring
  | false, false, .broken => .settled .spoiled
  | false, false, .valid e => .settled (.filled e)
  | false, false, .unwritten => .byContent

/-! ## Codes of settings (R171) -/

/-- A mode's code. -/
def Mode.code : Mode → Nat
  | .off => 0
  | .edge => 1
  | .time => 2

/-- The mode of a code. -/
def Mode.ofCode? : Nat → Option Mode
  | 0 => some .off
  | 1 => some .edge
  | 2 => some .time
  | _ => none

/-- A polarity's code. -/
def Polarity.code : Polarity → Nat
  | .rising => 0
  | .falling => 1

/-- The polarity of a code. -/
def Polarity.ofCode? : Nat → Option Polarity
  | 0 => some .rising
  | 1 => some .falling
  | _ => none

/-- A tariff source's code. -/
def TariffSource.code : TariffSource → Nat
  | .host => 0
  | .lines => 1

/-- The tariff source of a code. -/
def TariffSource.ofCode? : Nat → Option TariffSource
  | 0 => some .host
  | 1 => some .lines
  | _ => none

/-- A yes-or-no value's meaning. -/
def yesNo? : Nat → Option Bool
  | 0 => some false
  | 1 => some true
  | _ => none

/-- A channel's settings in 9 bytes (R184, R192). -/
def channelConfigBytes (c : ChannelConfig) : List Byte :=
  leBytes 1 c.mode.code ++ leBytes 1 c.polarity.code ++ leBytes 1 c.filter ++ leBytes 2 c.weight ++ leBytes 4 c.threshold

/-- A channel's settings from 9 bytes at an offset, none if one is out of range (R100, R117, R183). -/
def readChannelConfig (bs : List Byte) (off : Nat) : Option ChannelConfig :=
  match Mode.ofCode? (field bs off 1), Polarity.ofCode? (field bs (off + 1) 1) with
  | some m, some p =>
    if field bs (off + 2) 1 ≤ 15 ∧ 1 ≤ field bs (off + 3) 2 then
      some { mode := m, polarity := p, filter := field bs (off + 2) 1, weight := field bs (off + 3) 2
             threshold := field bs (off + 5) 4 }
    else none
  | _, _ => none

/-- The global settings in 6 bytes (R183, R184, R192). -/
def globalConfigBytes (g : GlobalConfig) : List Byte :=
  leBytes 2 g.commitInterval ++ leBytes 1 g.tariffSource.code ++ [boolByte g.commitOnTariff] ++ leBytes 2 g.idleTimeout

/-- The global settings from 6 bytes at an offset, none if one is out of range (R100, R117, R183). -/
def readGlobalConfig (bs : List Byte) (off : Nat) : Option GlobalConfig :=
  match TariffSource.ofCode? (field bs (off + 2) 1), yesNo? (field bs (off + 3) 1) with
  | some t, some y =>
    if field bs off 2 ≤ 3600 ∧ 10 ≤ field bs (off + 4) 2 ∧ field bs (off + 4) 2 ≤ 600 then
      some { commitInterval := field bs off 2, tariffSource := t, commitOnTariff := y, idleTimeout := field bs (off + 4) 2 }
    else none
  | _, _ => none

/-! ## Configuration images (R104, R192) -/

/-- The four slots of an image but its CRC: 126 bytes (R192). -/
def imageBody (c : Configuration) (generation : Nat) : List Byte :=
  leBytes 1 1 ++ leBytes 4 generation ++ globalConfigBytes c.globals ++ List.replicate 21 0 ++
  (channelConfigBytes (c.channels.get .ch0) ++ channelConfigBytes (c.channels.get .ch1) ++
    channelConfigBytes (c.channels.get .ch2) ++ List.replicate 5 0) ++
  (channelConfigBytes (c.channels.get .ch3) ++ channelConfigBytes (c.channels.get .ch4) ++
    channelConfigBytes (c.channels.get .ch5) ++ List.replicate 5 0) ++
  (channelConfigBytes (c.channels.get .ch6) ++ channelConfigBytes (c.channels.get .ch7) ++ List.replicate 12 0)

/-- The 128 bytes of an image's four slots (R188, R192). -/
def imageBytes (c : Configuration) (generation : Nat) : List Byte :=
  imageBody c generation ++ crcBytes (imageBody c generation)

/-- The 32 bytes of one slot of an image. -/
def imageSlotBytes (c : Configuration) (generation slot : Nat) : List Byte :=
  slice (imageBytes c generation) (slot * slotSize) slotSize

/-- Where a channel's entry stands among an image's 128 bytes (R192). -/
def imageChannelOffset : Channel → Nat
  | .ch0 => 32
  | .ch1 => 41
  | .ch2 => 50
  | .ch3 => 64
  | .ch4 => 73
  | .ch5 => 82
  | .ch6 => 96
  | .ch7 => 105

/-- An image as read: its configuration and its generation. -/
structure ReadImage where
  config : Configuration
  generation : Nat
deriving DecidableEq, Repr

/-- Eight values, if all are there. -/
def allChannels? {α : Type} (f : Channel → Option α) : Option (PerChannel α) :=
  match f .ch0, f .ch1, f .ch2, f .ch3, f .ch4, f .ch5, f .ch6, f .ch7 with
  | some a, some b, some c, some d, some e, some g, some h, some i => some ⟨a, b, c, d, e, g, h, i⟩
  | _, _, _, _, _, _, _, _ => none

/-- The CRC among the 128 bytes of an image's four slots matches the bytes it covers (R104, R188, R192). -/
def imageCrcMatches (bs : List Byte) : Bool := slice bs 126 2 == crcBytes (bs.take 126)

/-- The image that a config sector's 128 bytes hold, if it is valid: format version 1, generation 1 to 200,000, CRC, every
setting in range (R104). -/
def parseImage (bs : List Byte) : Option ReadImage :=
  if field bs 0 1 = 1 ∧ 1 ≤ field bs 1 4 ∧ field bs 1 4 ≤ Config.maxGeneration ∧ imageCrcMatches bs = true then
    match allChannels? (fun c => readChannelConfig bs (imageChannelOffset c)), readGlobalConfig bs 5 with
    | some cs, some g => some { config := { channels := cs, globals := g }, generation := field bs 1 4 }
    | _, _ => none
  else none

end Sys2Proof.Machine
end

