-- ==== Sys2Proof/Machine/ArrayOps.lean ====
section
/-! DEFINITION. The named operations over the nonvolatile array: reading, programming, erasing, and the unknown bytes a
failed, aborted or torn operation leaves (R57, R59, R60, R61). -/

namespace Sys2Proof.Machine

namespace Memory

/-- What an unlisted address reads as: an erased byte (R57). -/
def erasedByte : Byte := 0xFF

/-- The byte at an address. -/
def read : Memory → Nat → Byte
  | [], _ => erasedByte
  | (k, v) :: m, a => if a = k then v else read m a

/-- One byte put at an address, the canonical form kept: FFh is not listed. -/
def put : Memory → Nat → Byte → Memory
  | [], a, b => if b = erasedByte then [] else [(a, b)]
  | (k, v) :: m, a, b =>
    if a < k then (if b = erasedByte then (k, v) :: m else (a, b) :: (k, v) :: m)
    else if a = k then (if b = erasedByte then m else (a, b) :: m)
    else (k, v) :: put m a b

/-- Every listed address is above `lo`, addresses rise strictly, and no entry is FFh. -/
def wfAbove : Option Nat → Memory → Bool
  | _, [] => true
  | lo, (k, v) :: m => (lo.all (· < k)) && (v != erasedByte) && wfAbove (some k) m

/-- The canonical form holds. -/
def wf (m : Memory) : Bool := wfAbove none m

/-- `n` bytes from an address on. -/
def readBytes (m : Memory) (a : Nat) : Nat → List Byte
  | 0 => []
  | n + 1 => read m a :: readBytes m (a + 1) n

/-- A program of bytes from an address on: bits change from 1 to 0 only (R57; log 21: DEDUCED). -/
def program : Memory → Nat → List Byte → Memory
  | m, _, [] => m
  | m, a, b :: bs => program (put m a (read m a &&& b)) (a + 1) bs

/-- A program that ended FAIL: its `n` bytes are unknown, but no bit has changed from 0 to 1 (R57, R59). The unknown bytes
are the free values from the `k`-th on (log 8: DESIGN CHOICE). -/
def programFailed : Memory → Nat → Nat → Nat → Memory
  | m, _, 0, _ => m
  | m, a, n + 1, k => programFailed (put m a (read m a &&& Config.freeByte k)) (a + 1) n (k + 1)

/-- A torn program: any mixture of programmed and unprogrammed bits (R61). -/
def programTorn : Memory → Nat → List Byte → Nat → Memory
  | m, _, [], _ => m
  | m, a, b :: bs, k => programTorn (put m a (read m a &&& (b ||| Config.freeByte k))) (a + 1) bs (k + 1)

/-- Bytes put from an address on, whatever stood there. -/
def store : Memory → Nat → List Byte → Memory
  | m, _, [] => m
  | m, a, b :: bs => store (put m a b) (a + 1) bs

/-- An erase of the `n` bytes from an address on: each reads FFh (R57). -/
def erase (m : Memory) (a n : Nat) : Memory := m.filter (fun c => c.1 < a || a + n ≤ c.1)

end Memory

/-! ## What a torn program or an erase that does not end PASS leaves (R59, R60, R61, R98, R104, R111, R130) -/

/-- `n` unknown bytes: the free values from the `k`-th on (log 8: DESIGN CHOICE). -/
def freeBytes : Nat → Nat → List Byte
  | 0, _ => []
  | n + 1, k => Config.freeByte k :: freeBytes n (k + 1)

/-- RING_SCAN finds a ring sector of these bytes SPOILED, or every byte of it reads FFh (R98, R130, R135, R136). -/
def erasedOrSpoiled (bs : List Byte) : Bool :=
  allFF bs ||
    match classifyHeader (bs.take slotSize) with
    | .settled x => x == .spoiled
    | .byContent => !allFF (bs.drop slotSize)

/-- The ten bytes of a header's fields with a broken epoch and the others unwritten (R62, R189). -/
def brokenHeader : List Byte := List.replicate 4 0xFF#8 ++ List.replicate 5 0#8 ++ [0xFF#8]

/-- What unknown bytes stand for in a ring sector whose erase was torn or aborted: themselves, where the next start finds the
sector as R98 and R130 say, and otherwise with a broken epoch, so that it does (log 29: DEDUCED). -/
def cutRingErase (bs : List Byte) : List Byte :=
  if erasedOrSpoiled bs then bs else brokenHeader ++ bs.drop brokenHeader.length

/-- What unknown bytes stand for in a config sector whose erase was torn: themselves, unless they are a valid image, which the
next start does not find there (R111), and then without a format version (log 29: DEDUCED). -/
def cutConfigErase (bs : List Byte) : List Byte :=
  if (parseImage (bs.take (4 * slotSize))).isSome then 0xFF#8 :: bs.drop 1 else bs

/-- What unknown bytes stand for in a sector whose erase was torn (R98, R111). -/
def tornErase : Sector → List Byte → List Byte
  | .ring _ => cutRingErase
  | .config _ => cutConfigErase

/-- What unknown bytes stand for in a sector whose erase was aborted; in a config sector they are any bytes (R111, R130). -/
def abortedErase : Sector → List Byte → List Byte
  | .ring _ => cutRingErase
  | .config _ => id

/-- The address of a slot's first byte. -/
def slotAddress (k : Sector) (slot : Nat) : Nat := k.toNat * sectorSize + slot * slotSize

/-- The 128 bytes of the four slots of an image as they read (R104). -/
def Memory.imageBytesAt (m : Memory) (k : Sector) : List Byte := Memory.readBytes m (slotAddress k 0) (4 * slotSize)

/-- What a torn program of an image's slot stands for: the torn mixture, where the image's CRC then does not match, and otherwise
the completed program, since nothing else leaves a CRC that matches (R104, R111; log 29: DEDUCED). -/
def cutImageProgram (torn completed : Memory) (k : Sector) : Memory :=
  if imageCrcMatches (torn.imageBytesAt k) then completed else torn

namespace Operation

/-- The address of the first byte an operation concerns. -/
def address (op : Operation) : Nat := slotAddress op.sector op.slot + op.offset

end Operation

namespace State

/-- The 32 bytes of a slot as they read (R59; log 17: DEDUCED). -/
def slotBytes (s : State) (k : Sector) (slot : Nat) : List Byte := Memory.readBytes s.array (slotAddress k slot) slotSize

/-- The array operation in progress replaced. -/
def setOp (s : State) (op : Option Operation) : State := s.setStore { s.store with op := op }

/-- An array operation begins (R58). -/
def beginOp (s : State) (task : Task) (k : Sector) (slot offset : Nat) (bytes : List Byte) : State :=
  s.setOp (some { task := task, sector := k, slot := slot, offset := offset, bytes := bytes, aborting := false })

/-- A program operation ends: on PASS its bytes are programmed, on FAIL they are unknown (R59). -/
def endProgram (s : State) (op : Operation) (o : ProgramOutcome) : State :=
  match o with
  | .pass => (s.setArray (Memory.program s.array op.address op.bytes)).setOp none
  | .fail =>
    ((s.setArray (Memory.programFailed s.array op.address op.bytes.length s.free)).setFree
      (s.free + op.bytes.length)).setOp none

/-- A whole sector's bytes left unknown but for what `f` makes of them; the free values are drawn (R59, R60, R61). -/
def scramble (s : State) (k : Sector) (f : List Byte → List Byte) : State :=
  (s.setArray (Memory.store s.array (slotAddress k 0) (f (freeBytes sectorSize s.free)))).setFree (s.free + sectorSize)

/-- An erase ends: on PASS every byte of the sector reads FFh, otherwise its bytes are unknown (R59, R60), after an abort within
what R130 says of them. -/
def endErase (s : State) (op : Operation) (o : EraseOutcome) : State :=
  match o with
  | .pass => (s.setArray (Memory.erase s.array (slotAddress op.sector 0) sectorSize)).setOp none
  | .fail => (s.scramble op.sector id).setOp none
  | .aborted => (s.scramble op.sector (abortedErase op.sector)).setOp none

/-- An array operation in progress is torn by a RESET or a loss of supply: the bytes it concerns are unknown, those of a
read unchanged, those of an erase within what R98 and R111 say of them, those of an image's slot within what R104 does (R61). -/
def tear (s : State) : State :=
  match s.store.op with
  | none => s
  | some op =>
    match op.task with
    | .scanRead | .copyRead | .slotRead => s.setOp none
    | .ringErase | .configErase => (s.scramble op.sector (tornErase op.sector)).setOp none
    | .imageProgram =>
      ((s.setArray
        (cutImageProgram (Memory.programTorn s.array op.address op.bytes s.free)
          (Memory.program s.array op.address op.bytes) op.sector)).setFree (s.free + op.bytes.length)).setOp none
    | .recordProgram | .confirmProgram | .epochProgram | .retireProgram | .countProgram =>
      ((s.setArray (Memory.programTorn s.array op.address op.bytes s.free)).setFree
        (s.free + op.bytes.length)).setOp none

end State

end Sys2Proof.Machine
end

