-- ==== Sys2Proof/Machine/Flags.lean ====
section
/-! DEFINITION. What is read from the state without changing it: the lines RDY and ATTN, the dirty, queued and in-job flags,
the store's counts, the trigger and class of compaction, and which happenings are due. -/

namespace Sys2Proof.Machine

/-! ## The notice table -/

namespace NoticeKind

/-- A kind's number, which is its priority (R147). -/
def number : NoticeKind → Nat
  | .power => 0
  | .storeFault => 1
  | .storeExhausted => 2
  | .config => 3
  | .service => 4
  | .link => 5
  | .lostEdges => 6
  | .rollover => 7

/-- All kinds, highest priority first (R147). -/
def all : List NoticeKind := [.power, .storeFault, .storeExhausted, .config, .service, .link, .lostEdges, .rollover]

/-- The set of one kind (R171). -/
def bit (k : NoticeKind) : NoticeSet := BitVec.ofNat 8 (2 ^ k.number)

end NoticeKind

namespace NoticeTable

/-- The record of a kind. -/
def get (t : NoticeTable) : NoticeKind → NoticeRecord
  | .power => t.power
  | .storeFault => t.storeFault
  | .storeExhausted => t.storeExhausted
  | .config => t.config
  | .service => t.service
  | .link => t.link
  | .lostEdges => t.lostEdges
  | .rollover => t.rollover

/-- One kind's record replaced. -/
def set (t : NoticeTable) (k : NoticeKind) (r : NoticeRecord) : NoticeTable :=
  match k with
  | .power => { t with power := r }
  | .storeFault => { t with storeFault := r }
  | .storeExhausted => { t with storeExhausted := r }
  | .config => { t with config := r }
  | .service => { t with service := r }
  | .link => { t with link := r }
  | .lostEdges => { t with lostEdges := r }
  | .rollover => { t with rollover := r }

/-- The set of pending kinds, masked or not (R148, R173). -/
def pendingSet (t : NoticeTable) : NoticeSet :=
  NoticeKind.all.foldl (fun m k => if (t.get k).pending then m ||| k.bit else m) 0

end NoticeTable

namespace NoticeUnit

/-- Whether a pending kind is eligible: every kind if masked ones are included, else POWER or one not in the mask
(R150, R151). -/
def eligible (u : NoticeUnit) (includeMasked : Bool) (k : NoticeKind) : Bool :=
  (u.records.get k).pending && (includeMasked || k == .power || !u.mask.getLsbD k.number)

/-- The eligible kind of the highest priority (R151). -/
def highest? (u : NoticeUnit) (includeMasked : Bool) : Option NoticeKind :=
  NoticeKind.all.find? (u.eligible includeMasked)

end NoticeUnit

namespace PerRing

/-- The ring sectors whose entry satisfies a test, ascending. -/
def sectorsWith {α : Type} (v : PerRing α) (p : α → Bool) : List RingSector := RingSector.all.filter (fun r => p (v.get r))

end PerRing

namespace SectorState

/-- ERASED. -/
def isErased : SectorState → Bool
  | .erased => true
  | _ => false

/-- FILLED. -/
def isFilled : SectorState → Bool
  | .filled _ => true
  | _ => false

/-- OPEN or FILLED: the sector's records are valid (R71). -/
def isInUse : SectorState → Bool
  | .opened _ _ => true
  | .filled _ => true
  | _ => false

/-- SPOILED or RETIRING: an erase is owed (R63). -/
def owesErase : SectorState → Bool
  | .spoiled => true
  | .retiring => true
  | _ => false

/-- WORN. -/
def isWorn : SectorState → Bool
  | .worn => true
  | _ => false

/-- The number of used slots (R63). -/
def usedSlots : SectorState → Nat
  | .opened _ n => n - 1
  | .filled _ => 31
  | .retiring => 31
  | _ => 0

/-- The free record slots a sector adds to the ring's (R66). -/
def freeSlots : SectorState → Nat
  | .opened _ n => 32 - n
  | .erased => 31
  | _ => 0

/-- A sector state's code (R171). -/
def code : SectorState → Nat
  | .erased => 0
  | .opened _ _ => 1
  | .filled _ => 2
  | .retiring => 3
  | .spoiled => 4
  | .worn => 5

end SectorState

namespace State

/-! ## Device state and lines -/

/-- The device state is RUN. -/
def isRun (s : State) : Bool := s.power.device == .run

/-- The part has its supply and its RESET line is not active, so that its timebase runs (R1, R132). -/
def alive (s : State) : Bool := s.supply.powered && !s.supply.resetLine

/-- RDY: a good frame arriving now would be admitted (R161). -/
def rdy (s : State) : Bool :=
  s.isRun && decide (s.link.requests.length < Config.maxRequests) && decide (s.link.credits < Config.maxCredits)

/-- ATTN is active: the notice unit is armed and a pending notice is POWER or unmasked (R150). -/
def attn (s : State) : Bool := s.notices.armed && NoticeKind.all.any (s.notices.eligible false)

/-! ## Pins as levels (R193) -/

/-- RDY's level: high when active (R161, R193). -/
def rdyPin (s : State) : Level := if s.rdy then .high else .low

/-- ATTN's level: low when active, and high, by its pull-up, when released (R150, R193). -/
def attnPin (s : State) : Level := if s.attn then .low else .high

/-- RESET's level: low while the line is active (R193). -/
def resetPin (s : State) : Level := if s.supply.resetLine then .low else .high

/-- TXD's idle level is high (R193); the levels of a frame's bits are below the model's granularity, none (log 24: DEDUCED). -/
def txdPin (s : State) : Option Level := if s.link.transmitting then none else some .high

/-! ## Channels -/

/-- A channel's settings in the live configuration (R100). -/
def liveChannel (s : State) (c : Channel) : ChannelConfig := s.config.live.channels.get c

/-- A channel is dirty: its live version differs from its committed version (R22). -/
def dirty (s : State) (c : Channel) : Bool := (s.accum.accounts.get c).version != (s.store.map.get c).version

/-- The dirty channels, ascending. -/
def dirtyChannels (s : State) : List Channel := Channel.all.filter s.dirty

/-- A channel has an entry in the commit queue (R37). -/
def queued (s : State) (c : Channel) : Bool := s.sched.queue.any (fun e => e.channel == c)

/-- The commit job in progress (R47); its one home is the array holder. -/
def commitJob (s : State) : Option CommitJob :=
  match s.store.holder with
  | some { job := .commit j, .. } => some j
  | _ => none

/-- A channel's commit job is in progress (R47). -/
def inJob (s : State) (c : Channel) : Bool := s.commitJob.any (fun j => j.channel == c)

/-! ## Record store -/

/-- The store state is BUSY (R58). -/
def busy (s : State) : Bool := s.store.op.isSome

/-- The array is idle and no job holds it (R77). -/
def arrayFree (s : State) : Bool := s.store.op.isNone && s.store.holder.isNone

/-- The free record slots (R66). -/
def freeSlots (s : State) : Nat := (RingSector.all.map (fun r => (s.store.table.get r).state.freeSlots)).sum

/-- The number of ERASED ring sectors. -/
def erasedSectors (s : State) : Nat := (s.store.table.sectorsWith (fun e => e.state.isErased)).length

/-- The number of ring sectors not WORN (R81). -/
def soundSectors (s : State) : Nat := (s.store.table.sectorsWith (fun e => !e.state.isWorn)).length

/-- The OPEN sector (R63). -/
def openSector? (s : State) : Option RingSector :=
  RingSector.all.find? (fun r => match (s.store.table.get r).state with
    | .opened _ _ => true
    | _ => false)

/-! ## Compaction -/

/-- The trigger holds (R84). -/
def trigger (s : State) : Bool :=
  !(s.store.table.sectorsWith (fun e => e.state.owesErase)).isEmpty ||
    (decide (s.erasedSectors ≤ 2) && !(s.store.table.sectorsWith (fun e => e.state.isFilled)).isEmpty &&
      !s.engine.retryWait)

/-- The compaction engine has a step (R84). -/
def engineReady (s : State) : Bool := s.isRun && !s.store.exhausted && (s.engine.phase != .idle || s.trigger)

/-- A compaction step is urgent (R86). The head waits for space while its flag is set, also once 17 record slots are free, until
it is started (R46; log 27: DEDUCED). -/
def urgent (s : State) : Bool := decide (s.erasedSectors ≤ 1) || s.sched.headWaiting

/-! ## Host jobs -/

/-- A job's entry by its slot. -/
def job? (s : State) (w : JobSlot) : Option HostJob := s.link.jobs.find? (fun j => j.slot == w)

/-- An entry of the host job table that is free (R163). -/
def freeJobSlot? (s : State) : Option JobSlot :=
  if !s.link.jobs.any (fun j => j.slot == .first) then some .first
  else if !s.link.jobs.any (fun j => j.slot == .second) then some .second
  else none

/-- A job is an array host job (R79). -/
def isArrayJob (j : HostJob) : Bool :=
  match j.state with
  | .apply _ _ => true
  | .readSlot _ _ => true
  | _ => false

/-- The oldest array host job (R79). -/
def arrayJob? (s : State) : Option HostJob := s.link.jobs.find? isArrayJob

/-! ## Lines as values -/

/-- The two-bit value of the tariff select lines, TSEL1 the high bit (R30). -/
def tselValue (f : TselFilter) : Tariff :=
  match f.line1, f.line0 with
  | .low, .low => .t0
  | .low, .high => .t1
  | .high, .low => .t2
  | .high, .high => .t3

/-- The line rate of the straps (R155). -/
def strapRate (p : Pins) : LineRate :=
  match p.baud1, p.baud0 with
  | .low, .low => .r9600
  | .low, .high => .r38400
  | .high, .low => .r115200
  | .high, .high => .r460800

/-! ## What is due: the happenings a tick or a second event completes (log 6: DEDUCED) -/

/-- A channel's filter takes its new level at this tick (R5). -/
def filterDue (s : State) (c : Channel) : Bool :=
  let k := s.capture.channels.get c
  s.capture.state == .live && decide (1 ≤ (s.liveChannel c).filter) && k.sync != k.filtered &&
    k.run + 1 == (s.liveChannel c).filter

/-- The tariff select filter takes its candidate at this tick (R30). -/
def tselDue (s : State) : Bool :=
  let f := s.accum.tsel
  s.alive && tselValue f != f.filtered && tselValue f == f.candidate && f.run + 1 == Config.lineFilterTicks

/-- The SVC filter takes its new level at this tick (R112). -/
def svcDue (s : State) : Bool :=
  s.alive && s.service.svcSync != s.service.svcFiltered && s.service.svcRun + 1 == Config.lineFilterTicks

/-- The resume timer expires at this tick (R129). -/
def resumeDue (s : State) : Bool :=
  s.power.device == .retain && s.power.resume.any (fun n => decide (Config.resumeTicks ≤ n + 1))

/-- The gap timer expires at this tick (R157). -/
def gapDue (s : State) : Bool := s.alive && s.link.gap.any (fun n => decide (Config.gapTicks ≤ n + 1))

/-- The next tick is the 1,000th, whose happening is the second event (R1). -/
def secondDue (s : State) : Bool := s.timebase.second + 1 == Config.ticksPerSecond

/-- The interval timer counts: RUN and an interval that is not 0 (R41). -/
def intervalRuns (s : State) : Bool := s.isRun && decide (1 ≤ s.config.live.globals.commitInterval)

/-- The interval timer expires at this second event (R41). -/
def intervalDue (s : State) : Bool :=
  s.intervalRuns && decide (s.config.live.globals.commitInterval ≤ s.sched.interval + 1)

/-- The service idle timer expires at this second event (R114). -/
def idleDue (s : State) : Bool :=
  match s.service.session with
  | .closed => false
  | .opened n => decide (s.config.live.globals.idleTimeout ≤ n + 1)

end State

end Sys2Proof.Machine
end

