-- ==== Sys2Proof/Machine/Notices.lean ====
section
/-! DEFINITION. The notice unit's operations: raising, merging, fetching (chapter 9). -/

namespace Sys2Proof.Machine

/-- A SERVICE reason's bit (R180). -/
def CloseReason.bit : CloseReason → Byte
  | .line => 1
  | .timeout => 2
  | .flush => 4

/-- A LINK reason's bit (R180). -/
def DiscardReason.bit : DiscardReason → Byte
  | .check => 1
  | .gap => 2
  | .length => 4
  | .noRoom => 8
  | .state => 16

namespace NoticeDetail

/-- A raise's detail merged into a record's, by the kind's rule: sets and masks join, STORE_FAULT keeps the first, POWER
and CONFIG take the raise's (R147). -/
def merge (k : NoticeKind) (old new : NoticeDetail) : NoticeDetail :=
  match k with
  | .storeFault => if old = .empty then new else old
  | .service | .link =>
    match old, new with
    | .reasons a, .reasons b => .reasons (a ||| b)
    | _, _ => new
  | .lostEdges =>
    match old, new with
    | .channels a, .channels b => .channels (a ||| b)
    | _, _ => new
  | .rollover =>
    match old, new with
    | .rollover a x, .rollover b y => .rollover (a ||| b) (x ||| y)
    | _, _ => new
  | .power | .config | .storeExhausted => new

/-- The detail's two bytes in a fetch's reply (R180). -/
def bytes : NoticeDetail → List Byte
  | .empty => [0, 0]
  | .power (.started .powerOn) => [1, 0]
  | .power (.started .resetLine) => [2, 0]
  | .power (.started .restart) => [3, 0]
  | .power .flushComplete => [4, 0]
  | .power (.flushIncomplete m) => [5, m]
  | .power .resumed => [6, 0]
  | .sector n => [BitVec.ofNat 8 n, 0]
  | .config .oneCopy => [1, 0]
  | .config .defaulted => [2, 0]
  | .config .bothValid => [0, 0]
  | .reasons r => [r, 0]
  | .channels m => [m, 0]
  | .rollover m b => [m, b.setWidth 8]

end NoticeDetail

/-- A record after a raise (R146). -/
def NoticeRecord.raised (r : NoticeRecord) (k : NoticeKind) (d : NoticeDetail) : NoticeRecord :=
  { pending := true, count := min Config.maxNoticeCount (r.count + 1), detail := NoticeDetail.merge k r.detail d }

namespace State

/-- A notice is raised (R146). -/
def raise (s : State) (k : NoticeKind) (d : NoticeDetail) : State :=
  s.setNotices { s.notices with records := s.notices.records.set k ((s.notices.records.get k).raised k d) }

/-- A kind's record is cleared and the unit disarmed, as a fetch does (R151). -/
def takeNotice (s : State) (k : NoticeKind) : State :=
  s.setNotices { s.notices with records := s.notices.records.set k NoticeRecord.clear, armed := false }

end State

end Sys2Proof.Machine
end

