-- ==== Sys2Proof/Machine/Operands.lean ====
section
/-! DEFINITION. The forms of requests and replies: kind codes, payload lengths, statuses, reply frames (R165, R170, R171,
R190), and the payloads of the replies that report state (R172 to R186). -/

namespace Sys2Proof.Machine

/-- The twenty request kinds (R170). -/
inductive RequestKind where
  | ping
  | getStatus
  | readChannel
  | readCommitted
  | getStoreMap
  | readSlot
  | setTariff
  | commit
  | fetchNotice
  | ackNotice
  | setNoticeMask
  | openService
  | closeService
  | stageChannel
  | stageGlobals
  | readConfig
  | applyConfig
  | discardStaged
  | loadTotals
  | restart
deriving DecidableEq, Repr

namespace RequestKind

/-- A kind's code (R170, R190). -/
def code : RequestKind → Byte
  | .ping => 0x01
  | .getStatus => 0x02
  | .readChannel => 0x03
  | .readCommitted => 0x04
  | .getStoreMap => 0x05
  | .readSlot => 0x06
  | .setTariff => 0x10
  | .commit => 0x11
  | .fetchNotice => 0x18
  | .ackNotice => 0x19
  | .setNoticeMask => 0x1A
  | .openService => 0x20
  | .closeService => 0x21
  | .stageChannel => 0x22
  | .stageGlobals => 0x23
  | .readConfig => 0x24
  | .applyConfig => 0x25
  | .discardStaged => 0x26
  | .loadTotals => 0x27
  | .restart => 0x30

/-- The kind of a KIND byte, none if it is not known (R163, R170). -/
def ofCode? (b : Byte) : Option RequestKind :=
  match b.toNat with
  | 0x01 => some .ping
  | 0x02 => some .getStatus
  | 0x03 => some .readChannel
  | 0x04 => some .readCommitted
  | 0x05 => some .getStoreMap
  | 0x06 => some .readSlot
  | 0x10 => some .setTariff
  | 0x11 => some .commit
  | 0x18 => some .fetchNotice
  | 0x19 => some .ackNotice
  | 0x1A => some .setNoticeMask
  | 0x20 => some .openService
  | 0x21 => some .closeService
  | 0x22 => some .stageChannel
  | 0x23 => some .stageGlobals
  | 0x24 => some .readConfig
  | 0x25 => some .applyConfig
  | 0x26 => some .discardStaged
  | 0x27 => some .loadTotals
  | 0x30 => some .restart
  | _ => none

/-- A kind's request payload length (R170). -/
def payloadLength : RequestKind → Nat
  | .ping => 0
  | .getStatus => 0
  | .readChannel => 1
  | .readCommitted => 1
  | .getStoreMap => 1
  | .readSlot => 2
  | .setTariff => 1
  | .commit => 1
  | .fetchNotice => 1
  | .ackNotice => 0
  | .setNoticeMask => 1
  | .openService => 0
  | .closeService => 0
  | .stageChannel => 10
  | .stageGlobals => 6
  | .readConfig => 2
  | .applyConfig => 0
  | .discardStaged => 0
  | .loadTotals => 21
  | .restart => 0

end RequestKind

/-- The reply statuses (R190). -/
inductive Status where
  | ok
  | unknownKind
  | badLength
  | badArgument
  | needsService
  | wrongSource
  | jobsFull
  | storeFailed
  | storeExhausted
  | cancelled
  | svcLineInactive
  | noNotice
deriving DecidableEq, Repr

/-- A status's code (R190). -/
def Status.code : Status → Byte
  | .ok => 0x00
  | .unknownKind => 0x01
  | .badLength => 0x02
  | .badArgument => 0x03
  | .needsService => 0x04
  | .wrongSource => 0x05
  | .jobsFull => 0x06
  | .storeFailed => 0x07
  | .storeExhausted => 0x08
  | .cancelled => 0x09
  | .svcLineInactive => 0x0A
  | .noNotice => 0x0B

/-- What answers a request: a status, with the payload of an OK reply. -/
structure Answer where
  status : Status
  payload : List Byte
deriving DecidableEq, Repr

namespace Answer

/-- An OK answer with a payload. -/
def ok (payload : List Byte) : Answer := { status := .ok, payload := payload }

/-- A refusal: its payload is empty (R165). -/
def refuse (status : Status) : Answer := { status := status, payload := [] }

end Answer

namespace Reply

/-- The reply to a request of a kind and a tag: the KIND byte with bit 7 set, the tag unchanged (R165). -/
def answering (kind tag : Byte) (a : Answer) : Reply :=
  { kind := kind ||| 0x80, tag := tag, status := a.status.code, payload := a.payload }

/-- LEN of a reply frame: the bytes from KIND to the end of the payload (R165). -/
def len (r : Reply) : Nat := r.payload.length + 3

/-- What a reply frame's CRC covers: LEN through the last payload byte (R165, R188). -/
def covered (r : Reply) : List Byte := BitVec.ofNat 8 r.len :: r.kind :: r.tag :: r.status :: r.payload

/-- The bytes of a reply frame on TXD (R165, R190). -/
def frame (r : Reply) : List Byte := 0xC3 :: (r.covered ++ crcBytes r.covered)

/-- The frame is the reply to an accepted RESTART: its KIND is RESTART's with bit 7 set and its status OK (R121, R166). -/
def isRestart (r : Reply) : Bool := r.kind == (RequestKind.restart.code ||| 0x80) && r.status == Status.ok.code

end Reply

/-! ## Codes a reply reports (R171) -/

/-- A device state's code. -/
def Device.code : Device → Nat
  | .start => 0
  | .run => 1
  | .flush => 2
  | .retain => 3

/-- A compaction state's code. -/
def Phase.code : Phase → Nat
  | .idle => 0
  | .copy _ _ => 1
  | .mark _ => 2
  | .erase _ _ => 3
  | .count _ => 4

/-- A session state's code. -/
def Session.code : Session → Nat
  | .closed => 0
  | .opened _ => 1

/-! ## Reply payloads that report state -/

namespace State

/-- PING's identity: family code 4808, revision 3, protocol 1, 8 channels, 4 tariffs, 14 ring sectors (R172). -/
def pingPayload : List Byte := leBytes 2 4808 ++ leBytes 1 3 ++ leBytes 1 1 ++ leBytes 1 8 ++ leBytes 1 4 ++ leBytes 1 14

/-- GET_STATUS's sixteen items in order (R173). -/
def statusPayload (s : State) : List Byte :=
  leBytes 1 s.power.device.code ++ leBytes 1 (if s.busy then 2 else 1) ++ [boolByte s.store.exhausted] ++
    leBytes 1 s.engine.phase.code ++ leBytes 1 s.service.session.code ++ leBytes 1 s.accum.tariff.toNat ++
    leBytes 1 s.config.live.globals.tariffSource.code ++ leBytes 2 s.freeSlots ++ leBytes 1 s.erasedSectors ++
    leBytes 1 s.sched.queue.length ++ leBytes 1 s.link.credits ++ [s.notices.records.pendingSet] ++
    [boolByte s.notices.armed] ++ leBytes 2 s.link.discarded ++ leBytes 4 s.config.generation ++
    leBytes 4 s.store.nextSequence

/-- READ_CHANNEL's flags byte: dirty, queued, in-job, filtered level (R174). -/
def channelFlags (s : State) (c : Channel) : Byte :=
  BitVec.ofNat 8 ((if s.dirty c then 1 else 0) + (if s.queued c then 2 else 0) + (if s.inJob c then 4 else 0) +
    (if (s.capture.channels.get c).filtered = .high then 8 else 0))

/-- READ_CHANNEL's payload (R174). -/
def channelPayload (s : State) (c : Channel) : List Byte :=
  leBytes 1 c.toNat ++ bucketBytes (s.accum.accounts.get c).buckets ++ leBytes 1 (s.capture.channels.get c).pending ++
    leBytes 2 (s.capture.channels.get c).lost ++ leBytes 6 (s.accum.accounts.get c).delta ++ [s.channelFlags c]

/-- The place of a designated record in a reply: sector, slot, sequence, or zeros with no record (R175, R186). -/
def designationBytes (d : Option Designation) : List Byte :=
  match d with
  | some d => leBytes 1 d.location.sector.toNat ++ leBytes 1 d.location.slot ++ leBytes 4 d.sequence
  | none => leBytes 1 0 ++ leBytes 1 0 ++ leBytes 4 0

/-- READ_COMMITTED's payload (R175). -/
def committedPayload (s : State) (c : Channel) : List Byte :=
  let e := s.store.map.get c
  leBytes 1 c.toNat ++ [boolByte e.designated.isSome] ++ designationBytes e.designated ++ bucketBytes e.buckets ++
    leBytes 2 e.lost

/-- One sector's 6 bytes of GET_STORE_MAP (R176). -/
def sectorBytes (e : SectorEntry) : List Byte :=
  leBytes 1 e.state.code ++ leBytes 1 e.state.usedSlots ++ leBytes 3 e.eraseCount ++ leBytes 1 e.mapRecords

/-- GET_STORE_MAP's payload from ring sector number `first` on: at most 8 sectors (R176). -/
def storeMapPayload (s : State) (first : Nat) : List Byte :=
  let rs := (RingSector.all.filter (fun r => decide (first ≤ r.toNat))).take 8
  leBytes 1 first ++ leBytes 1 rs.length ++ rs.flatMap (fun r => sectorBytes (s.store.table.get r))

/-- READ_CONFIG's settings of one item of a configuration: a channel, or the globals for item 8 (R184). -/
def configItemBytes (c : Configuration) (item : Nat) : Option (List Byte) :=
  match Channel.ofNat? item with
  | some ch => some (channelConfigBytes (c.channels.get ch))
  | none => if item = 8 then some (globalConfigBytes c.globals) else none

end State

end Sys2Proof.Machine
end

