-- ==== Sys2Proof/Machine/LinkOps.lean ====
section
/-! DEFINITION. The host link's shared operations: replies and the transmitter, host jobs and their ends, frame discards,
admission and the receiver (chapter 10). -/

namespace Sys2Proof.Machine

namespace State

/-! ## Replies and the transmitter (R165, R166) -/

/-- The transmitter begins the reply-queue head if it is idle, there is one, and the device state is RUN or FLUSH
(R166; log 24: DEDUCED). -/
def startTransmitter (s : State) : State :=
  if !s.link.transmitting && !s.link.replies.isEmpty && (s.power.device == .run || s.power.device == .flush) then
    s.setLink { s.link with transmitting := true }
  else s

/-- A reply enters the tail of the reply queue (R165). -/
def enqueueReply (s : State) (r : Reply) : State :=
  (s.setLink { s.link with replies := s.link.replies ++ [r] }).startTransmitter

/-- A request is answered (R163, R165). -/
def answer (s : State) (kind tag : Byte) (a : Answer) : State := s.enqueueReply (Reply.answering kind tag a)

/-! ## Host jobs (R163, R164) -/

/-- The request kind a host job was made from (R164). -/
def jobKind (j : JobState) : RequestKind :=
  match j with
  | .apply _ _ => .applyConfig
  | .readSlot _ _ => .readSlot
  | .commitWait _ _ => .commit
  | .loadWait _ => .loadTotals

/-- A request is placed in a free entry of the host job table (R163, R164). -/
def acceptJob (s : State) (w : JobSlot) (tag : Byte) (j : JobState) : State :=
  s.setLink { s.link with jobs := s.link.jobs ++ [{ slot := w, tag := tag, state := j }] }

/-- A host job's own state replaced. -/
def setJobState (s : State) (w : JobSlot) (j : JobState) : State :=
  s.setLink { s.link with jobs := s.link.jobs.map (fun x => if x.slot = w then { x with state := j } else x) }

/-- A host job ends: its entry is freed and its reply enters the reply queue (R164). -/
def endJob (s : State) (w : JobSlot) (a : Answer) : State :=
  match s.job? w with
  | none => s
  | some j =>
    (s.setLink { s.link with jobs := s.link.jobs.eraseP (fun x => x.slot == w) }).answer (jobKind j.state).code j.tag a

/-- FLUSH entry's cancellation: every host job in acceptance order, then every request in queue order (R167). -/
def cancelAll (s : State) : State :=
  let cancelled := Answer.refuse .cancelled
  let replies := s.link.jobs.map (fun j => Reply.answering (jobKind j.state).code j.tag cancelled) ++
    s.link.requests.map (fun r => Reply.answering r.kind r.tag cancelled)
  (s.setLink { s.link with jobs := [], requests := [], replies := s.link.replies ++ replies }).startTransmitter

/-! ## Discards and admission (R158, R159) -/

/-- A frame is discarded: silently in START, else counted and LINK raised with the reason (R159). -/
def discard (s : State) (r : DiscardReason) : State :=
  if s.power.device = .start then s
  else
    (s.setLink { s.link with discarded := min Config.maxCount16 (s.link.discarded + 1) }).raise .link (.reasons r.bit)

/-- The idle timer restarts if the session is OPEN (R114). -/
def restartIdle (s : State) : State :=
  match s.service.session with
  | .closed => s
  | .opened _ => s.setService { s.service with session := .opened 0 }

/-- A good frame is offered to admission (R158). -/
def admitRequest (s : State) (r : Request) : State :=
  if s.power.device ≠ .run then s.discard .state
  else if Config.maxRequests ≤ s.link.requests.length then s.discard .noRoom
  else if Config.maxCredits ≤ s.link.credits then s.discard .noRoom
  else (s.setLink { s.link with requests := s.link.requests ++ [r], credits := s.link.credits + 1 }).restartIdle

/-! ## The receiver (R156, R157) -/

/-- The receiver's state and gap timer replaced. -/
def setReceiver (s : State) (r : Receiver) (gap : Option Nat) : State :=
  s.setLink { s.link with receiver := r, gap := gap }

/-- The second check byte is taken: on a match the frame is offered to admission, else discarded with CHECK; either way the
receiver enters HUNT (R156, R158). The first stored byte is KIND, the second TAG. -/
def completeFrame (s : State) (len : Nat) (stored : List Byte) (first last : Byte) : State :=
  let s := s.setReceiver .hunt none
  if crcBytes (BitVec.ofNat 8 len :: stored) = [first, last] then
    match stored with
    | kind :: tag :: payload => s.admitRequest { kind := kind, tag := tag, payload := payload }
    | _ => s.discard .check
  else s.discard .check

/-- The receiver takes a character (R156). -/
def takeCharacter (s : State) (b : Byte) (framingError : Bool) : State :=
  match s.link.receiver with
  | .hunt => if !framingError && b == 0xC3 then s.setReceiver .length (some 0) else s
  | .length =>
    if framingError then (s.setReceiver .hunt none).discard .check
    else if 2 ≤ b.toNat ∧ b.toNat ≤ 62 then s.setReceiver (.body b.toNat []) (some 0)
    else (s.setReceiver .hunt none).discard .length
  | .body len stored =>
    if framingError then (s.setReceiver .hunt none).discard .check
    else if len ≤ stored.length + 1 then s.setReceiver (.check len (stored ++ [b]) none) (some 0)
    else s.setReceiver (.body len (stored ++ [b])) (some 0)
  | .check len stored none =>
    if framingError then (s.setReceiver .hunt none).discard .check
    else s.setReceiver (.check len stored (some b)) (some 0)
  | .check len stored (some first) =>
    if framingError then (s.setReceiver .hunt none).discard .check
    else s.completeFrame len stored first b

/-- The gap timer expires: the frame in progress is discarded with GAP (R157). -/
def gapExpiry (s : State) : State := (s.setReceiver .hunt none).discard .gap

/-- The gap timer's share of a tick (R157). -/
def gapTick (s : State) : State :=
  if s.gapDue then s.gapExpiry
  else s.setLink { s.link with gap := s.link.gap.map (· + 1) }

end State

end Sys2Proof.Machine
end

