-- ==== Sys2Proof/Machine/SchedOps.lean ====
section
/-! DEFINITION. The commit scheduler's shared operations: causes and the commit queue, waiters and their outcomes,
resolution while the store is EXHAUSTED (chapter 3). -/

namespace Sys2Proof.Machine

/-- A cause's rank, 1 the highest (R36). COMPACT is no cause of the scheduler and ranks below all. -/
def Cause.rank : Cause → Nat
  | .flush => 1
  | .load => 2
  | .request => 3
  | .tariff => 4
  | .threshold => 5
  | .interval => 6
  | .compact => 7

/-- The higher-ranked of an entry's present cause and a new one (R38). -/
def Cause.higher (present new : Cause) : Cause := if new.rank < present.rank then new else present

/-- A cause reaches the commit queue: it merges into the channel's entry, or makes one at the tail (R38). -/
def mergeCause (q : List QueueEntry) (c : Channel) (cause : Cause) (w : Option JobSlot) : List QueueEntry :=
  match q with
  | [] => [{ channel := c, cause := cause, waiters := w.toList }]
  | e :: q =>
    if e.channel = c then { e with cause := e.cause.higher cause, waiters := e.waiters ++ w.toList } :: q
    else e :: mergeCause q c cause w

/-- What a resolution tells a waiter (03, 3.6). -/
inductive Resolution where
  | skipped
  | succeeded
  | storeFailed
  | exhausted
deriving DecidableEq, Repr

namespace Resolution

/-- The failure a COMMIT_WAIT job records for a resolution (R52). -/
def failure : Resolution → Option CommitFailure
  | .skipped => none
  | .succeeded => none
  | .storeFailed => some .storeFailed
  | .exhausted => some .storeExhausted

end Resolution

/-- A failure's reply status (R52, R53). -/
def CommitFailure.status : CommitFailure → Status
  | .storeFailed => .storeFailed
  | .storeExhausted => .storeExhausted

/-- The answer of a COMMIT_WAIT job that ends with a failure record (R52). -/
def commitAnswer (f : Option CommitFailure) : Answer :=
  match f with
  | none => Answer.ok []
  | some f => Answer.refuse f.status

/-- A failure record after an outcome: the first failure is kept (R52). -/
def recordFailure (old new : Option CommitFailure) : Option CommitFailure :=
  match old with
  | some f => some f
  | none => new

namespace State

/-- The answer of a LOAD_WAIT job of a channel: on success the place of its designated record, read from the commit map
(R53, R186). -/
def loadAnswer (s : State) (c : Channel) (o : Resolution) : Answer :=
  match o.failure with
  | none => Answer.ok (designationBytes (s.store.map.get c).designated)
  | some f => Answer.refuse f.status

/-- A waiter is told how a channel's entry or job was resolved (R52, R53). -/
def tell (s : State) (c : Channel) (o : Resolution) (w : JobSlot) : State :=
  match (s.job? w).map HostJob.state with
  | some (.commitWait remaining f) =>
    let f' := recordFailure f o.failure
    if maskWithout remaining c = 0 then s.endJob w (commitAnswer f')
    else s.setJobState w (.commitWait (maskWithout remaining c) f')
  | some (.loadWait _) => s.endJob w (s.loadAnswer c o)
  | _ => s

/-- Every waiter is told, in the order attached (R40). -/
def tellAll (s : State) (c : Channel) (o : Resolution) (ws : List JobSlot) : State :=
  ws.foldl (fun s w => s.tell c o w) s

/-- The commit queue replaced. -/
def setQueue (s : State) (q : List QueueEntry) : State := s.setSched { s.sched with queue := q }

/-- While the store is EXHAUSTED every entry is resolved as failed, in queue order (R51, R95). -/
def resolveExhausted (s : State) : State :=
  let q := s.sched.queue
  q.foldl (fun s e => s.tellAll e.channel .exhausted e.waiters)
    (s.setSched { s.sched with queue := [], headWaiting := false })

/-- A cause for a channel reaches the scheduler in RUN, with its waiter if it has one (R38, R51). -/
def deliverCause (s : State) (c : Channel) (cause : Cause) (w : Option JobSlot) : State :=
  let s := s.setQueue (mergeCause s.sched.queue c cause w)
  if s.store.exhausted then s.resolveExhausted else s

/-- One cause for several channels, in the order given (R38). -/
def deliverAll (s : State) (cs : List Channel) (cause : Cause) (w : Option JobSlot) : State :=
  cs.foldl (fun s c => s.deliverCause c cause w) s

/-- The interval timer's expiry: every dirty channel is given INTERVAL and the count returns to 0 (R41). -/
def intervalExpiry (s : State) : State :=
  (s.setSched { s.sched with interval := 0 }).deliverAll s.dirtyChannels .interval none

end State

end Sys2Proof.Machine
end

