-- ==== Sys2Proof/Machine/CountOps.lean ====
section
/-! DEFINITION. The capture unit's and the accumulation unit's shared operations: additions, filters, drains, snapshots,
tariff switches and the LOAD effect (chapters 1 and 2). -/

namespace Sys2Proof.Machine

namespace State

/-- One channel's capture state replaced. -/
def setCaptureChannel (s : State) (c : Channel) (k : CaptureChannel) : State :=
  s.setCapture { s.capture with channels := s.capture.channels.set c k }

/-- One channel's totals replaced. -/
def setAccount (s : State) (c : Channel) (a : Account) : State :=
  s.setAccum { s.accum with accounts := s.accum.accounts.set c a }

/-! ## Additions (R7, R8, R10) -/

/-- An addition to a channel's pending count: at 255 it is lost, counted and raised as LOST_EDGES (R10). -/
def addCount (s : State) (c : Channel) : State :=
  let k := s.capture.channels.get c
  if k.pending < Config.maxPending then s.setCaptureChannel c { k with pending := k.pending + 1 }
  else
    (s.setCaptureChannel c { k with lost := min Config.maxCount16 (k.lost + 1) }).raise .lostEdges
      (.channels (channelBit c))

/-- The level an EDGE channel's counted change ends at, and a TIME channel's active level (R3). -/
def activeLevel (p : Polarity) : Level :=
  match p with
  | .rising => .high
  | .falling => .low

/-- A channel's filtered level changes to its synchronised level and its filter run returns to 0; in EDGE mode a change in
the configured direction adds a count (R5, R6, R7). -/
def changeFiltered (s : State) (c : Channel) : State :=
  let k := s.capture.channels.get c
  let s' := s.setCaptureChannel c { k with filtered := k.sync, run := 0 }
  if (s.liveChannel c).mode = .edge ∧ k.sync = activeLevel (s.liveChannel c).polarity then s'.addCount c else s'

/-- A channel's filter at a tick of a LIVE capture unit (R5); with filter length 0 the run stays 0 (R6). -/
def filterTick (s : State) (c : Channel) : State :=
  let k := s.capture.channels.get c
  if (s.liveChannel c).filter = 0 then s
  else if k.sync = k.filtered then s.setCaptureChannel c { k with run := 0 }
  else if s.filterDue c then s.changeFiltered c
  else s.setCaptureChannel c { k with run := k.run + 1 }

/-- The TIME-mode test of a channel at a tick, after its filter (R8). -/
def timeTest (s : State) (c : Channel) : State :=
  if (s.liveChannel c).mode = .time ∧ (s.capture.channels.get c).filtered = activeLevel (s.liveChannel c).polarity then
    s.addCount c
  else s

/-- The capture unit's share of a tick: nothing while FROZEN (R5, R8, R13). -/
def captureTick (s : State) : State :=
  if s.capture.state = .live then Channel.all.foldl (fun s c => (s.filterTick c).timeTest c) s else s

/-- A channel's filter re-initialised: its level is the synchronised level, its run 0 (R14, R15). -/
def CaptureChannel.reinitialised (k : CaptureChannel) : CaptureChannel := { k with filtered := k.sync, run := 0 }

/-- The capture unit becomes LIVE with every filter re-initialised (R14). -/
def captureLive (s : State) : State :=
  s.setCapture
    { state := .live
      channels := PerChannel.ofFn (fun c => CaptureChannel.reinitialised (s.capture.channels.get c)) }

/-- The capture unit becomes FROZEN (R13). -/
def captureFreeze (s : State) : State := s.setCapture { s.capture with state := .frozen }

/-! ## Drains (R19 to R24) -/

/-- A channel's totals after units are added to a tariff's bucket, from a pending count (R19, steps 2 to 4). -/
def Account.drained (a : Account) (t : Tariff) (pending weight : Nat) : Account :=
  { buckets := a.buckets.set t (a.buckets.get t + BitVec.ofNat 40 (pending * weight))
    delta := min Config.maxDelta (a.delta + pending * weight)
    version := if pending = 0 then a.version else a.version + 1 }

/-- Units carry a bucket past 2^40 - 1 (R20). -/
def rollsOver (b : Bucket) (units : Nat) : Bool := decide (Config.bucketModulus ≤ b.toNat + units)

/-- A channel's pending count is taken and set to 0 (R11). -/
def takePending (s : State) (c : Channel) : State :=
  s.setCaptureChannel c { s.capture.channels.get c with pending := 0 }

/-- A drain's steps 1 to 4 (R19): the pending count, weighted, goes to the active bucket and the delta, the live version
advances if it was not 0, and a wrap raises ROLLOVER (R20). -/
def drainCounts (s : State) (c : Channel) : State :=
  let p := (s.capture.channels.get c).pending
  let w := (s.liveChannel c).weight
  let t := s.accum.tariff
  let a := s.accum.accounts.get c
  let s' := (s.takePending c).setAccount c (Account.drained a t p w)
  if rollsOver (a.buckets.get t) (p * w) then s'.raise .rollover (.rollover (channelBit c) (tariffBit t)) else s'

/-- The threshold step queues the channel (R23). -/
def thresholdMet (s : State) (c : Channel) : Bool :=
  decide (0 < (s.liveChannel c).threshold) &&
    decide ((s.liveChannel c).threshold ≤ (s.accum.accounts.get c).delta) && !s.queued c && !s.inJob c

/-- A drain's step 5 (R23). -/
def thresholdStep (s : State) (c : Channel) : State :=
  if s.thresholdMet c then s.deliverCause c .threshold none else s

/-- A drain whose caller calls for the threshold step (R19). -/
def drain (s : State) (c : Channel) : State := (s.drainCounts c).thresholdStep c

/-- Every channel drained in ascending order, with the threshold step: a drain round (R24), and the drains of a tariff
switch and of the apply swap (R28, R33). -/
def drainAll (s : State) : State := Channel.all.foldl drain s

/-- Every channel drained in ascending order without the threshold step, as at FLUSH entry (R26). -/
def drainCountsAll (s : State) : State := Channel.all.foldl drainCounts s

/-- The drain round of a tick of RUN (R24). -/
def drainRound (s : State) : State := if s.power.device = .run then s.drainAll else s

/-! ## Snapshots (R25) -/

/-- What a snapshot holds (R25). -/
def snapshot (s : State) (c : Channel) : Snapshot :=
  let a := s.accum.accounts.get c
  { buckets := a.buckets, lost := (s.capture.channels.get c).lost, version := a.version, delta := a.delta
    tariff := s.accum.tariff }

/-! ## Tariffs (R28, R30 to R32) -/

/-- A tariff switch (R28). -/
def tariffSwitch (s : State) (t : Tariff) : State :=
  if t = s.accum.tariff then s
  else
    let s := s.drainAll
    let s := s.setAccum { s.accum with tariff := t }
    if s.config.live.globals.commitOnTariff then s.deliverAll s.dirtyChannels .tariff none else s

/-- Under LINES, a switch to the filtered value of the lines (R31, R32). -/
def followLines (s : State) : State :=
  if s.config.live.globals.tariffSource = .lines then s.tariffSwitch s.accum.tsel.filtered else s

/-- The tariff select filter takes its candidate; in RUN under LINES that is a tariff switch (R30, R31). -/
def tselChange (s : State) : State :=
  let s := s.setAccum { s.accum with tsel := { s.accum.tsel with filtered := s.accum.tsel.candidate, run := 0 } }
  if s.power.device = .run then s.followLines else s

/-- The tariff select filter at a tick (R30). -/
def tselTick (s : State) : State :=
  let f := s.accum.tsel
  let v := tselValue f
  if v = f.filtered then s.setAccum { s.accum with tsel := { f with run := 0 } }
  else if v = f.candidate then
    if f.run + 1 = Config.lineFilterTicks then s.tselChange
    else s.setAccum { s.accum with tsel := { f with run := f.run + 1 } }
  else s.setAccum { s.accum with tsel := { f with candidate := v, run := 1 } }

/-- The tariff select filter takes the lines' present value (R30). -/
def TselFilter.atLines (f : TselFilter) : TselFilter :=
  { f with filtered := tselValue f, candidate := tselValue f, run := 0 }

/-! ## The LOAD effect (R34) -/

/-- Steps 1 to 4 of the LOAD effect. -/
def loadTotals (s : State) (c : Channel) (b : PerTariff Bucket) : State :=
  let s := s.drainCounts c
  let s := s.setAccount c
    { s.accum.accounts.get c with buckets := b, version := (s.accum.accounts.get c).version + 1 }
  s.setCaptureChannel c { s.capture.channels.get c with lost := 0 }

/-- The LOAD effect, with its LOAD_WAIT job as waiter (R34, R45). -/
def loadEffect (s : State) (c : Channel) (b : PerTariff Bucket) (w : JobSlot) : State :=
  (s.loadTotals c b).deliverCause c .load (some w)

end State

end Sys2Proof.Machine
end

