-- ==== Sys2Proof/Machine/RingOps.lean ====
section
/-! DEFINITION. The record store's shared operations: slots, head opening, attempts, the success and failure of commit jobs
and copies (chapter 4), and the compaction engine's part in copies, WORN sectors and exhaustion (chapter 5). -/

namespace Sys2Proof.Machine

/-- A copy of a phase whose copy position passes the channel it stands at: past CH7 the engine enters MARK, in FLUSH too (R83, R87,
R88, R96; log 32: DEDUCED). -/
def Phase.advanced : Phase → Phase
  | .copy t p => if 8 ≤ p + 1 then .mark t else .copy t (p + 1)
  | p => p

namespace WriteJob

/-- What a job's records carry (R70): the snapshot's values, or the copied record's with cause COMPACT. A copy still reading
has none. -/
def content : WriteJob → Option RecordContent
  | .commit j =>
    some { channel := j.channel, cause := j.cause, tariff := j.snapshot.tariff, buckets := j.snapshot.buckets
           lost := j.snapshot.lost }
  | .reading _ _ => none
  | .copy j =>
    some { channel := j.channel, cause := .compact, tariff := j.tariff, buckets := j.buckets, lost := j.lost }

/-- The free record slots an attempt of the job needs (R69). -/
def minimum : WriteJob → Nat
  | .commit j => if j.cause = .flush then 1 else Config.ordinaryMinimum
  | .reading _ _ => 1
  | .copy _ => 1

/-- The job is a commit of the flush list (R55). -/
def isFlush : WriteJob → Bool
  | .commit j => j.cause == .flush
  | _ => false

end WriteJob

namespace State

/-- A ring sector's table entry. -/
def entry (s : State) (r : RingSector) : SectorEntry := s.store.table.get r

/-- A ring sector's table entry replaced. -/
def setEntry (s : State) (r : RingSector) (e : SectorEntry) : State :=
  s.setStore { s.store with table := s.store.table.set r e }

/-- A ring sector's state in the table replaced (R63). -/
def setSectorState (s : State) (r : RingSector) (x : SectorState) : State := s.setEntry r { s.entry r with state := x }

/-- The array holder replaced. -/
def setHolder (s : State) (h : Option Hold) : State := s.setStore { s.store with holder := h }

/-- The engine's phase replaced. -/
def setPhase (s : State) (p : Phase) : State := s.setEngine { s.engine with phase := p }

/-- STORE_FAULT is raised with a sector (R147). -/
def storeFault (s : State) (k : Sector) : State := s.raise .storeFault (.sector k.toNat)

/-! ## Failure of a job (R50, R74, R89) -/

/-- A commit job fails: STORE_FAULT with the sector of its last operation that ended FAIL, an epoch program's too (log 31: DEDUCED),
its waiters are told, and a flush commit's channel is not written (R50, R74, R124). A job none of whose operations ended FAIL cannot come to fail; the sector
is then a free value (log 9: DESIGN CHOICE). -/
def commitFails (s : State) (j : CommitJob) (fault : Option RingSector) : State :=
  let s := s.setHolder none
  let s := match fault with
    | some r => s.storeFault (.ring r)
    | none => (s.raise .storeFault (.sector (Config.freeSectorNumber s.free))).setFree (s.free + 1)
  let s := s.tellAll j.channel .storeFailed j.waiters
  if j.cause = .flush then s.setPower { s.power with notWritten := s.power.notWritten ||| channelBit j.channel } else s

/-- A copy fails: STORE_FAULT, the engine gives up its target and sets the retry wait (R89). -/
def copyFails (s : State) (target : RingSector) (fault : Option RingSector) : State :=
  let s := (s.setHolder none).storeFault (.ring (fault.getD target))
  s.setEngine { phase := .idle, retryWait := true }

/-- The job that holds the array fails. -/
def jobFails (s : State) (h : Hold) : State :=
  match h.job with
  | .commit j => s.commitFails j h.fault
  | .reading _ t => s.copyFails t h.fault
  | .copy j => s.copyFails j.target h.fault

/-! ## Slots and head opening (R67, R68) -/

/-- An attempt takes a slot of the OPEN sector and the next sequence, and its record program begins (R67, R72, R73;
log 22: DEDUCED). -/
def beginRecord (s : State) (h : Hold) (r : RingSector) (epoch slot : Nat) : State :=
  match h.job.content with
  | none => s
  | some content =>
    let q := s.store.nextSequence
    let s := s.setSectorState r (.opened epoch (slot + 1))
    let s := s.setStore { s.store with nextSequence := q + 1 }
    let s := s.setHolder (some { h with place := some { sector := r, slot := slot }, sequence := q })
    s.beginOp .recordProgram (.ring r) slot 0 (recordBytes content q)

/-- The OPEN sector, if it is full, becomes FILLED (R68, step 1). -/
def fillFullHead (s : State) : State :=
  match s.openSector? with
  | none => s
  | some r =>
    match (s.entry r).state with
    | .opened e n => if 32 ≤ n then s.setSectorState r (.filled e) else s
    | _ => s

/-- The ERASED ring sector of the lowest erase count, the lowest number among equals (R68, step 2). -/
def headCandidate? (s : State) : Option RingSector :=
  (s.store.table.sectorsWith (fun e => e.state.isErased)).foldl
    (fun best r => match best with
      | none => some r
      | some b => if (s.entry r).eraseCount < (s.entry b).eraseCount then some r else some b) none

/-- Head opening for the job that holds the array: the next epoch is issued and its program begins, or the attempt has no
slot and the job fails (R65, R68, R74). -/
def openHead (s : State) (h : Hold) : State :=
  let s := s.fillFullHead
  match s.headCandidate? with
  | none => s.jobFails h
  | some r =>
    let e := s.store.highestEpoch + 1
    let s := s.setStore { s.store with highestEpoch := e, holder := some { h with place := none } }
    s.beginOp .epochProgram (.ring r) 0 epochOffset (epochBytes e)

/-- An attempt that may begin takes the OPEN sector's next slot, or opens a head first (R67). -/
def takeSlot (s : State) (h : Hold) : State :=
  match s.openSector? with
  | none => s.openHead h
  | some r =>
    match (s.entry r).state with
    | .opened e n => if n < 32 then s.beginRecord h r e n else s.openHead h
    | _ => s.openHead h

/-- The next attempt of the job that holds the array, if the free record slots reach its minimum; else the job fails
(R69, R74). -/
def nextAttempt (s : State) (h : Hold) : State :=
  if s.freeSlots < h.job.minimum then s.jobFails h else s.takeSlot h

/-- An attempt has failed with an operation on a sector: another follows, or after three the job fails (R74). -/
def attemptFailed (s : State) (h : Hold) (r : RingSector) : State :=
  let h := { h with attempts := h.attempts + 1, fault := some r }
  let s := s.setHolder (some h)
  if Config.maxAttempts ≤ h.attempts then s.jobFails h else s.nextAttempt h

/-! ## Success of a job (R49, R64, R76, R88) -/

/-- The map-records counts when a map entry's location changes (R64). -/
def moveMapRecord (s : State) (old : Option RingSector) (new : RingSector) : State :=
  if old = some new then s
  else
    let s := match old with
      | some r => s.setEntry r { s.entry r with mapRecords := (s.entry r).mapRecords - 1 }
      | none => s
    s.setEntry new { s.entry new with mapRecords := (s.entry new).mapRecords + 1 }

/-- One channel's commit-map entry replaced. -/
def setMapEntry (s : State) (c : Channel) (e : MapEntry) : State :=
  s.setStore { s.store with map := s.store.map.set c e }

/-- A channel's designated record becomes the one just confirmed; the map-records counts follow (R64, R76). -/
def designate (s : State) (c : Channel) (d : Designation) : State :=
  let old := (s.store.map.get c).designated.map (fun x => x.location.sector)
  (s.setMapEntry c { s.store.map.get c with designated := some d }).moveMapRecord old d.location.sector

/-- A commit job succeeds: the map entry takes the snapshot, the delta is reduced by the snapshot's, the waiters are told
(R49, R76). -/
def commitSucceeds (s : State) (j : CommitJob) (d : Designation) : State :=
  let s := s.setHolder none
  let s := s.designate j.channel d
  let s := s.setMapEntry j.channel
    { s.store.map.get j.channel with
      buckets := j.snapshot.buckets, lost := j.snapshot.lost, version := j.snapshot.version }
  let a := s.accum.accounts.get j.channel
  let s := s.setAccount j.channel { a with delta := a.delta - j.snapshot.delta }
  s.tellAll j.channel .succeeded j.waiters

/-- A copy succeeds: the map entry takes the new location and sequence, and the copy position passes the channel
(R76, R87, R88). -/
def copySucceeds (s : State) (j : CopyJob) (d : Designation) : State :=
  ((s.setHolder none).designate j.channel d).setPhase s.engine.phase.advanced

/-- The confirm mark of an attempt has passed (R73, R76). -/
def jobSucceeds (s : State) (h : Hold) (at_ : Location) : State :=
  match h.job with
  | .commit j => s.commitSucceeds j { location := at_, sequence := h.sequence }
  | .reading _ _ => s
  | .copy j => s.copySucceeds j { location := at_, sequence := h.sequence }

/-! ## FLUSH entry's cut (R54, R96) -/

/-- The job that holds the array was in progress at FLUSH entry: in FLUSH it is no flush commit. It begins no further
operation. -/
def holderCut (s : State) (h : Hold) : Bool := s.power.device == .flush && !h.job.isFlush

/-! ## Exhaustion (R95) -/

/-- The test for exhaustion in a happening that made a ring sector WORN (R81, R95). -/
def testExhausted (s : State) : State :=
  if s.store.exhausted = false ∧ s.soundSectors < Config.fewestSectors then
    ((s.setStore { s.store with exhausted := true }).raise .storeExhausted .empty).resolveExhausted
  else s

/-! ## Starting a commit (R25, R47) -/

/-- A channel's commit starts: it is drained without the threshold step and, if dirty, its job begins with a snapshot and
its first attempt; if clean, its waiters are told SKIPPED (R25, R47). -/
def startCommit (s : State) (e : QueueEntry) : State :=
  let s := s.drainCounts e.channel
  if s.dirty e.channel then
    let h : Hold :=
      { job := .commit { channel := e.channel, snapshot := s.snapshot e.channel, cause := e.cause, waiters := e.waiters }
        attempts := 0, place := none, sequence := 0, fault := none }
    (s.setHolder (some h)).nextAttempt h
  else s.tellAll e.channel .skipped e.waiters

end State

end Sys2Proof.Machine
end

