-- ==== Sys2Proof/Machine/ArbiterOps.lean ====
section
/-! DEFINITION. The compaction engine's steps as the arbiter gives them the array (chapter 5), the array host jobs' steps
(R79, R108, R109), and the store arbiter's choice in RUN (R77, R78). -/

namespace Sys2Proof.Machine

/-- A config sector as an array sector (R57). -/
def ConfigSector.sector (k : ConfigSector) : Sector := .config k

/-- The target of an APPLY: the config sector that is not live, A if none is (R108). -/
def applyTarget (live : Option ConfigSector) : ConfigSector :=
  match live with
  | some .a => .b
  | some .b => .a
  | none => .a

namespace State

/-! ## Compaction steps -/

/-- The ring sector an IDLE engine erases: the lowest-numbered one SPOILED or RETIRING (R85). -/
def eraseTarget? (s : State) : Option RingSector :=
  RingSector.all.find? (fun r => (s.entry r).state.owesErase)

/-- A FILLED sector's epoch; of another sector it is not asked. -/
def filledEpoch (s : State) (r : RingSector) : Nat :=
  match (s.entry r).state with
  | .filled e => e
  | _ => 0

/-- The FILLED sector an IDLE engine copies from: the one of the lowest epoch (R85; log 19: DEDUCED). -/
def copyTarget? (s : State) : Option RingSector :=
  (s.store.table.sectorsWith (fun e => e.state.isFilled)).foldl
    (fun best r => match best with
      | none => some r
      | some b => if s.filledEpoch r < s.filledEpoch b then some r else some b) none

/-- The re-check from a copy position on: the first channel whose map record lies in the target (R87). -/
def nextCopy? (s : State) (t : RingSector) (position : Nat) : Option (Channel × Location) :=
  Channel.all.findSome? (fun c =>
    match (s.store.map.get c).designated with
    | some d => if position ≤ c.toNat ∧ d.location.sector = t then some (c, d.location) else none
    | none => none)

/-- The MARK program begins (R90). -/
def beginMark (s : State) (t : RingSector) : State :=
  (s.setPhase (.mark t)).beginOp .retireProgram (.ring t) 0 retireOffset [0]

/-- An erase of the target begins (R91). -/
def beginErase (s : State) (t : RingSector) (attempts : Nat) : State :=
  (s.setPhase (.erase t attempts)).beginOp .ringErase (.ring t) 0 0 []

/-- The COUNT program begins, with the table's erase count plus 1 (R93). -/
def beginCount (s : State) (t : RingSector) : State :=
  s.beginOp .countProgram (.ring t) 0 countOffset (countBytes ((s.entry t).eraseCount + 1))

/-- COPY from a position on: channels are passed over up to one whose record lies in the target, whose copy begins with its
read; with none left MARK begins (R87, R88). -/
def examine (s : State) (t : RingSector) (position : Nat) : State :=
  match s.nextCopy? t position with
  | none => s.beginMark t
  | some (c, l) =>
    let h : Hold := { job := .reading c t, attempts := 0, place := none, sequence := 0, fault := none }
    ((s.setPhase (.copy t c.toNat)).setHolder (some h)).beginOp .copyRead (.ring l.sector) l.slot 0 []

/-- The step the compaction engine owes, as the arbiter gives it the array (R83, R85, R87, R90, R91, R93). -/
def engineStep (s : State) : State :=
  match s.engine.phase with
  | .idle =>
    match s.eraseTarget? with
    | some t => s.beginErase t 0
    | none =>
      match s.copyTarget? with
      | some t => s.examine t 0
      | none => s
  | .copy t p => s.examine t p
  | .mark t => s.beginMark t
  | .erase t n => s.beginErase t n
  | .count t => s.beginCount t

/-! ## Steps of array host jobs -/

/-- An APPLY job's next step begins: its erase or a slot's program (R109). -/
def beginApplyStep (s : State) (w : JobSlot) (image : Configuration) (p : ApplyProgress) : State :=
  let s := s.setJobState w (.apply image (some p))
  match p.step with
  | .erase => s.beginOp .configErase p.target.sector 0 0 []
  | .program k => s.beginOp .imageProgram p.target.sector k 0 (imageSlotBytes image p.generation k)

/-- An array host job's next step, as the arbiter chooses it. An APPLY's first step fixes its target and generation, or ends
the job at the generation limit (R79, R80, R108). -/
def jobStep (s : State) (j : HostJob) : State :=
  match j.state with
  | .readSlot k n => s.beginOp .slotRead k n 0 []
  | .apply image (some p) => s.beginApplyStep j.slot image p
  | .apply image none =>
    if Config.maxGeneration ≤ s.config.generation then s.endJob j.slot (Answer.refuse .storeExhausted)
    else
      s.beginApplyStep j.slot image
        { target := applyTarget s.config.liveSector, generation := s.config.generation + 1, step := .erase }
  | _ => s

/-! ## The arbiter's choice -/

/-- The compaction engine's step, if it has one (R84). -/
def compactIfReady (s : State) : State := if s.engineReady then s.engineStep else s

/-- What the arbiter takes behind urgent compaction and host jobs: the commit-queue head if 17 record slots are free, else
the head waits and compaction, now urgent, is next; with no head, a normal compaction step (R69, R77). -/
def takeHead (s : State) : State :=
  match s.sched.queue with
  | [] => s.compactIfReady
  | e :: q =>
    if Config.ordinaryMinimum ≤ s.freeSlots then
      (s.setSched { s.sched with queue := q, headWaiting := false }).startCommit e
    else (s.setSched { s.sched with headWaiting := true }).compactIfReady

/-- One choice of the arbiter in RUN (R77, R78). The head comes to wait only at a choice that reaches it (log 28: DESIGN CHOICE),
and an urgent step is chosen before a head that waits, also once 17 record slots are free (log 27: DEDUCED). -/
def chooseRun (s : State) : State :=
  if s.engineReady && s.urgent then s.engineStep
  else
    match s.arrayJob? with
    | some j => s.jobStep j
    | none => if s.store.exhausted then s else s.takeHead

/-- The arbiter in RUN: it chooses until the array is taken or nothing is ready. A choice leaves the array free only when it
has resolved a queue entry or ended a job, so `fuel` bounds the choices (R77). -/
def arbitrateRun : Nat → State → State
  | 0, s => s
  | fuel + 1, s => if s.arrayFree then arbitrateRun fuel s.chooseRun else s

/-- How many choices can leave the array free. -/
def choices (s : State) : Nat := s.sched.queue.length + s.link.jobs.length + 1

/-- The arbiter's choices in RUN in one happening. -/
def arbiterRun (s : State) : State := arbitrateRun s.choices s

end State

end Sys2Proof.Machine
end

