-- ==== Sys2Proof/Machine/PowerOps.lean ====
section
/-! DEFINITION. The power monitor's shared operations: the entry into START, FLUSH entry, the flush list and FLUSH end, the
return to RUN, the resume timer (chapters 7 and 8); the session's close (R116); and the arbiter in every device state
(R78). -/

namespace Sys2Proof.Machine

namespace State

/-! ## The session's close (R116) -/

/-- The session closes, if it is OPEN: the staged configuration becomes the live one, and SERVICE is raised with the reason
if there is one (R103, R116). -/
def closeSession (s : State) (reason : Option CloseReason) : State :=
  match s.service.session with
  | .closed => s
  | .opened _ =>
    let s := s.setService { s.service with session := .closed }
    let s := s.setConfig { s.config with staged := s.config.live }
    match reason with
    | some r => s.raise .service (.reasons r.bit)
    | none => s

/-- The SVC filter takes the line's level; a change to inactive closes an OPEN session (R112, R116). -/
def svcChange (s : State) : State :=
  let s := s.setService { s.service with svcFiltered := s.service.svcSync, svcRun := 0 }
  if s.service.svcFiltered then s else s.closeSession (some .line)

/-- The SVC filter at a tick (R112). -/
def svcTick (s : State) : State :=
  if s.service.svcSync = s.service.svcFiltered then s.setService { s.service with svcRun := 0 }
  else if s.service.svcRun + 1 = Config.lineFilterTicks then s.svcChange
  else s.setService { s.service with svcRun := s.service.svcRun + 1 }

/-! ## The entry into START (R132) -/

/-- The TSEL, SVC and PFAIL filters take the present line levels (R30, R112, R118). -/
def takeLines (s : State) : State :=
  let s := s.setAccum { s.accum with tsel := TselFilter.atLines s.accum.tsel }
  let s := s.setService { s.service with svcFiltered := s.service.svcSync, svcRun := 0 }
  s.setPower { s.power with pfailFiltered := s.power.pfailSync, pfailRun := 0 }

/-- A channel's capture state at the entry into START (R132). -/
def CaptureChannel.restarted (k : CaptureChannel) : CaptureChannel := { k with run := 0, pending := 0, lost := 0 }

/-- The entry into START with a cause: every block's working state is set; what is not said to be set is kept (R119, R132,
R154, R168; log 3: DESIGN CHOICE). The timebase is cleared but at an owed restart (R1). -/
def startEntry (s : State) (cause : StartCause) : State :=
  let s := s.takeLines
  { s with
    timebase := if cause = .restart then s.timebase else { divider := 0, second := 0 }
    capture :=
      { state := .frozen, channels := PerChannel.ofFn (fun c => CaptureChannel.restarted (s.capture.channels.get c)) }
    accum := { s.accum with accounts := PerChannel.all Account.zero }
    sched := Scheduler.initial
    store := Store.initial
    engine := Engine.initial
    config := { s.config with staged := s.config.live, outcome := .bothValid }
    service := { s.service with session := .closed }
    power :=
      { s.power with
        device := .start, resume := none, restartOwed := false, startCause := cause, replyWait := false, notWritten := 0 }
    notices := NoticeUnit.initial
    link := HostLink.initial s.link.lineRate
    scan := Scan.initial }

/-- The phases of START begin: the straps are read and the first read begins (R133, R155). -/
def beginPhases (s : State) : State :=
  (s.setLink { s.link with lineRate := strapRate s.pins }).setOp (some Operation.firstScanRead)

/-- An owed restart (R127, R129). -/
def owedRestart (s : State) : State := (s.startEntry .restart).beginPhases

/-- The supply is lost: the part stops, the array operation in progress is torn, and working memory is lost; the array and
the pins' levels stay (R61, R194; log 15: DESIGN CHOICE). -/
def loseSupply (s : State) : State :=
  let s := s.tear.startEntry s.power.startCause
  let s := s.setConfig ConfigUnit.initial
  let s := s.setAccum { s.accum with tariff := .t0 }
  let s := s.setTimebase { divider := 0, second := 0 }
  s.setSupply { s.supply with powered := false }

/-- SVC and PFAIL are active when low (R193). -/
def activeLow (l : Level) : Bool := l == .low

/-- The synchronisers take the pins' first samples (R4), and the straps' levels stand at their pins. -/
def samplePins (s : State) (p : PinLevels) : State :=
  let s := s.setCapture
    { s.capture with channels := PerChannel.ofFn (fun c => CaptureChannel.fresh (p.channels.get c)) }
  let s := s.setAccum { s.accum with tsel := { s.accum.tsel with line1 := p.tsel1, line0 := p.tsel0 } }
  let s := s.setService { s.service with svcSync := activeLow p.svc }
  let s := s.setPower { s.power with pfailSync := activeLow p.pfail }
  s.setPins { baud1 := p.baud1, baud0 := p.baud0 }

/-- The supply comes up (R132). A RESET line that is active holds the part at the entry into START, with its own cause
(R119; log 14: DEDUCED). -/
def powerUp (s : State) (p : PinLevels) : State :=
  let s := (s.loseSupply.samplePins p)
  let s := s.setSupply { s.supply with powered := true }
  if s.supply.resetLine then s.startEntry .resetLine else (s.startEntry .powerOn).beginPhases

/-! ## The return to RUN (R126) -/

/-- The device state becomes RUN from FLUSH or RETAIN: capture becomes LIVE, the tariff follows the lines, the transmitter
resumes, and the arbiter chooses (R14, R31, R126, R168). -/
def returnToRun (s : State) : State :=
  ((s.setPower { s.power with device := .run, resume := none }).captureLive.followLines.startTransmitter).arbiterRun

/-! ## FLUSH end and the flush list (R124, R125) -/

/-- Channels join the not-written mask (R124). -/
def notWrite (s : State) (m : ChannelMask) : State :=
  s.setPower { s.power with notWritten := s.power.notWritten ||| m }

/-- The flush list replaced. -/
def setFlushList (s : State) (cs : List Channel) : State := s.setSched { s.sched with flushList := cs }

/-- The POWER detail of FLUSH end (R125). -/
def flushDetail (m : ChannelMask) : PowerDetail := if m = 0 then .flushComplete else .flushIncomplete m

/-- The reply wait ends when the reply queue is empty and no frame is being sent (R127). -/
def endReplyWait (s : State) : State :=
  if s.power.replyWait && s.link.replies.isEmpty && !s.link.transmitting then s.owedRestart else s

/-- FLUSH end: POWER is raised, the not-written mask cleared, and RETAIN, the reply wait or RUN chosen (R125). -/
def flushEnd (s : State) : State :=
  let s := s.raise .power (.power (flushDetail s.power.notWritten))
  let s := s.setPower { s.power with notWritten := 0 }
  if s.power.pfailFiltered then s.setPower { s.power with device := .retain }
  else if s.power.restartOwed then (s.setPower { s.power with replyWait := true }).endReplyWait
  else s.returnToRun

/-- The flush list is written on: each channel in turn is offered while the array is free; the finished list is FLUSH end
(R55, R124). -/
def offerFlush : List Channel → State → State
  | [], s => s.flushEnd
  | c :: rest, s =>
    if s.store.exhausted then offerFlush rest ((s.setFlushList rest).notWrite (channelBit c))
    else if s.freeSlots < 1 then ((s.setFlushList []).notWrite (maskOf (c :: rest))).flushEnd
    else
      let s := (s.setFlushList rest).startCommit { channel := c, cause := .flush, waiters := [] }
      if s.arrayFree then offerFlush rest s else s

/-- The arbiter, in every device state: in RUN its choices; in FLUSH the flush list, until FLUSH has ended; nothing in START
and RETAIN (R77, R78). -/
def arbiter (s : State) : State :=
  match s.power.device with
  | .run => s.arbiterRun
  | .flush => if s.arrayFree && !s.power.replyWait then offerFlush s.sched.flushList s else s
  | .start => s
  | .retain => s

/-! ## FLUSH entry (R122) -/

/-- The waiters of the commit job in progress are dropped; a job with no operation in progress ends at once (R54). -/
def cutHolder (s : State) : State :=
  if s.store.op.isNone then s.setHolder none
  else
    match s.store.holder with
    | some h =>
      match h.job with
      | .commit j => s.setHolder (some { h with job := .commit { j with waiters := [] } })
      | _ => s
    | none => s

/-- An erase in progress is aborted; it will end ABORTED (R60). -/
def abortErase (s : State) : State :=
  match s.store.op with
  | some op =>
    match op.task with
    | .ringErase | .configErase => s.setOp (some { op with aborting := true })
    | _ => s
  | none => s

/-- FLUSH entry's effects on every block, in one happening (R54, R96, R111, R116, R122, R123, R167). -/
def enterFlush (s : State) : State :=
  let s := s.setPower { s.power with device := .flush, replyWait := false, resume := none, notWritten := 0 }
  let s := s.captureFreeze.drainCountsAll
  let s := s.setSched { s.sched with queue := [], headWaiting := false, flushList := s.dirtyChannels }
  s.cutHolder.abortErase.cancelAll.closeSession (some .flush)

/-- FLUSH entry, and the first flush commit, or FLUSH end, if the array is free (R122, R124). -/
def flushEntry (s : State) : State := s.enterFlush.arbiter

/-! ## RETAIN (R129) -/

/-- The resume timer expires: an owed restart, or the return to RUN with POWER RESUMED (R129). -/
def resumeExpiry (s : State) : State :=
  if s.power.restartOwed then s.owedRestart else (s.raise .power (.power .resumed)).returnToRun

/-- The resume timer's share of a tick (R129). -/
def resumeTick (s : State) : State :=
  if s.resumeDue then s.resumeExpiry
  else if s.power.device = .retain then s.setPower { s.power with resume := s.power.resume.map (· + 1) }
  else s

/-! ## Replies sent (R166) -/

/-- The last byte of the reply-queue head is sent (R121, R127, R166). -/
def sendReply (s : State) : State :=
  match s.link.transmitting, s.link.replies with
  | true, r :: rest =>
    let s := s.setLink { s.link with replies := rest, transmitting := false, credits := s.link.credits - 1 }
    let s := if r.isRestart then s.setPower { s.power with restartOwed := true } else s
    let s := if r.isRestart && s.isRun then s.flushEntry else s
    s.startTransmitter.endReplyWait
  | _, _ => s

end State

end Sys2Proof.Machine
end

