-- ==== Sys2Proof/Machine/StartOps.lean ====
section
/-! DEFINITION. START's phases: CONFIG_SCAN, RING_SCAN and REBUILD, read by read, and the entry into RUN (chapter 8). -/

namespace Sys2Proof.Machine

/-- What CONFIG_SCAN makes live: the configuration, its generation, its sector and the outcome kept (R106). -/
structure Chosen where
  config : Configuration
  generation : Nat
  sector : Option ConfigSector
  outcome : ScanOutcome
deriving DecidableEq, Repr

/-- CONFIG_SCAN's choice from the two sectors' images (R106, R134). -/
def chooseImage (a b : Option ReadImage) : Chosen :=
  match a, b with
  | some x, some y =>
    if x.generation < y.generation then
      { config := y.config, generation := y.generation, sector := some .b, outcome := .bothValid }
    else { config := x.config, generation := x.generation, sector := some .a, outcome := .bothValid }
  | some x, none => { config := x.config, generation := x.generation, sector := some .a, outcome := .oneCopy }
  | none, some y => { config := y.config, generation := y.generation, sector := some .b, outcome := .oneCopy }
  | none, none => { config := Configuration.default, generation := 0, sector := none, outcome := .defaulted }

/-- The highest of some counts, 0 if there is none. -/
def highestCount (vs : List Nat) : Nat := vs.foldl max 0

/-- A ring sector's erase count as the second pass settles it: its own field's, or the highest valid one of any other
sector but at most 99,999 (R137). -/
def settledCount (counts : PerRing (Option Nat)) (r : RingSector) : Nat :=
  match counts.get r with
  | some v => v
  | none =>
    min (Config.wornCount - 1) (highestCount ((RingSector.all.filter (fun q => q != r)).filterMap (fun q => counts.get q)))

namespace State

/-- START's working state replaced. -/
def setScanStep (s : State) (x : ScanStep) : State := s.setScan { s.scan with step := x }

/-- START's next read begins (R133). -/
def beginScanRead (s : State) (x : ScanStep) (k : Sector) (slot : Nat) : State :=
  (s.setScanStep x).beginOp .scanRead k slot 0 []

/-! ## CONFIG_SCAN (R134) -/

/-- CONFIG_SCAN's choice becomes live and staged (R103, R106, R134). -/
def applyChosen (s : State) (c : Chosen) : State :=
  s.setConfig
    { live := c.config, generation := c.generation, staged := c.config, liveSector := c.sector, outcome := c.outcome }

/-- The config sector and slot of CONFIG_SCAN's `n`-th read: slots 0 to 3 of A, then of B (R134). -/
def configRead (n : Nat) : Sector × Nat := if n < 4 then (.config .a, n) else (.config .b, n - 4)

/-- RING_SCAN reads a sector's header (R135). -/
def readHeader (s : State) (r : RingSector) : State := s.beginScanRead (.header r) (.ring r) 0

/-- A CONFIG_SCAN read has ended: the next one begins, or the choice is made and RING_SCAN begins (R133, R134). -/
def configReadEnd (s : State) (n : Nat) (bs : List Byte) : State :=
  let s := s.setScan { s.scan with configBytes := s.scan.configBytes ++ bs }
  if n < 7 then s.beginScanRead (.config (n + 1)) (configRead (n + 1)).1 (configRead (n + 1)).2
  else
    (s.applyChosen
      (chooseImage (parseImage (slice s.scan.configBytes 0 128)) (parseImage (slice s.scan.configBytes 128 128)))).readHeader
        .s2

/-! ## REBUILD (R139 to R143) -/

/-- The record slots REBUILD reads of a sector: the used ones of the OPEN sector and of FILLED ones (R139). -/
def rebuildSlots (s : State) (r : RingSector) : Nat :=
  if (s.entry r).state.isInUse then (s.entry r).state.usedSlots else 0

/-- The first of some sectors that has record slots to read (R139). -/
def firstToRead? (s : State) (rs : List RingSector) : Option RingSector :=
  rs.find? (fun r => decide (1 ≤ s.rebuildSlots r))

/-- A record read by REBUILD is offered to its channel's map entry, which takes it if it has none or one of no higher
sequence; and it is the newest record of all if none read before has a higher sequence (R139, R140, R142; log 19: DEDUCED). -/
def offerRecord (s : State) (r : RingSector) (slot : Nat) (x : ReadRecord) : State :=
  let c := x.content.channel
  let takes := (s.store.map.get c).designated.all (fun d => decide (d.sequence ≤ x.sequence))
  let s :=
    if takes then
      s.setMapEntry c
        { designated := some { location := { sector := r, slot := slot }, sequence := x.sequence }
          buckets := x.content.buckets, lost := x.content.lost, version := 0 }
    else s
  if s.scan.newest.all (fun p => decide (p.1 ≤ x.sequence)) then
    s.setScan { s.scan with newest := some (x.sequence, x.content.tariff) }
  else s

/-- The number of channels whose record lies in a sector (R140). -/
def recordsIn (s : State) (r : RingSector) : Nat :=
  (Channel.all.filter (fun c => (s.store.map.get c).designated.any (fun d => d.location.sector == r))).length

/-- REBUILD's end for the store: map-records counts, next sequence, exhausted flag (R140, R143). -/
def rebuildStore (s : State) : State :=
  let s := s.setStore
    { s.store with
      table := PerRing.ofFn (fun r => { s.entry r with mapRecords := s.recordsIn r })
      nextSequence := match s.scan.newest with
        | some (q, _) => q + 1
        | none => 1 }
  s.setStore { s.store with exhausted := decide (s.soundSectors < Config.fewestSectors) }

/-- REBUILD's end for the live state: each channel starts clean from its map entry (R12, R141). -/
def rebuildLive (s : State) : State :=
  let s := s.setAccum
    { s.accum with
      accounts := PerChannel.ofFn (fun c => { buckets := (s.store.map.get c).buckets, delta := 0, version := 0 }) }
  s.setCapture
    { s.capture with
      channels := PerChannel.ofFn
        (fun c => { s.capture.channels.get c with lost := (s.store.map.get c).lost, pending := 0 }) }

/-- The active tariff REBUILD restores (R27, R142). -/
def restoredTariff (s : State) : Tariff :=
  match s.config.live.globals.tariffSource with
  | .lines => s.accum.tsel.filtered
  | .host =>
    match s.scan.newest with
    | some (_, t) => t
    | none => .t0

/-- REBUILD restores the active tariff (R142). -/
def rebuildTariff (s : State) : State := s.setAccum { s.accum with tariff := s.restoredTariff }

/-- The start's notices (R144, step 3). -/
def raiseStartNotices (s : State) : State :=
  let s := s.raise .power (.power (.started s.power.startCause))
  let s := if s.config.outcome = .bothValid then s else s.raise .config (.config s.config.outcome)
  if s.store.exhausted then s.raise .storeExhausted .empty else s

/-- The entry into RUN from START: with PFAIL inactive the receiver is in HUNT (R145; log 30: DEDUCED), and with PFAIL active FLUSH
is entered in the same happening, which leaves the receiver as it is (R120, R144, R167). -/
def enterRun (s : State) : State :=
  let s := (s.setPower { s.power with device := .run }).setScanStep .done
  let s := s.captureLive.raiseStartNotices
  if s.power.pfailFiltered then s.flushEntry else (s.setReceiver .hunt none).arbiter

/-- REBUILD's reads have ended: the totals are set and RUN is entered (R140 to R144). -/
def completeStart (s : State) : State := s.rebuildStore.rebuildLive.rebuildTariff.enterRun

/-- REBUILD's first read of the first of some sectors, or its end (R139). -/
def rebuildFrom (s : State) (rs : List RingSector) : State :=
  match s.firstToRead? rs with
  | some r => s.beginScanRead (.rebuild r 1) (.ring r) 1
  | none => s.completeStart

/-- The ring sectors after one, ascending. -/
def sectorsAfter (r : RingSector) : List RingSector := RingSector.all.filter (fun q => decide (r.toNat < q.toNat))

/-- A REBUILD read has ended (R139). -/
def rebuildReadEnd (s : State) (r : RingSector) (slot : Nat) (bs : List Byte) : State :=
  let s := match parseRecord bs with
    | some x => s.offerRecord r slot x
    | none => s
  if slot < s.rebuildSlots r then s.beginScanRead (.rebuild r (slot + 1)) (.ring r) (slot + 1)
  else s.rebuildFrom (sectorsAfter r)

/-! ## RING_SCAN (R135 to R138) -/

/-- The in-use sector of the highest epoch, the lower-numbered of two equals (R138). -/
def headSector? (s : State) : Option RingSector :=
  (s.store.table.sectorsWith (fun e => e.state.isFilled)).foldl
    (fun best r => match best with
      | none => some r
      | some b => if s.filledEpoch b < s.filledEpoch r then some r else some b) none

/-- The second pass but for the head's next slot: erase counts and the highest epoch are settled (R137, R138), and the
head's slots are read downward from 31; with no head REBUILD begins. -/
def secondPass (s : State) : State :=
  let s := s.setStore
    { s.store with
      table := PerRing.ofFn (fun r => { s.entry r with eraseCount := settledCount s.scan.counts r })
      highestEpoch := s.scan.highestEpoch }
  match s.headSector? with
  | some r => s.beginScanRead (.head r (s.filledEpoch r) 31) (.ring r) 31
  | none => s.rebuildFrom RingSector.all

/-- The first pass goes on to the next sector, or the second pass begins (R135). -/
def nextHeader (s : State) (r : RingSector) : State :=
  match r.next? with
  | some q => s.readHeader q
  | none => s.secondPass

/-- A header read has ended: the sector is classified, or its content test begins (R135, R136). -/
def headerReadEnd (s : State) (r : RingSector) (bs : List Byte) : State :=
  let s := s.setScan
    { s.scan with
      counts := s.scan.counts.set r (readCount bs).value?
      highestEpoch := max s.scan.highestEpoch ((readEpoch bs).value?.getD 0) }
  match classifyHeader bs with
  | .settled x => (s.setSectorState r x).nextHeader r
  | .byContent => s.beginScanRead (.content r 1) (.ring r) 1

/-- A content test's read has ended: a slot not FFh throughout makes the sector SPOILED, 31 erased slots make it ERASED
(R136). -/
def contentReadEnd (s : State) (r : RingSector) (slot : Nat) (bs : List Byte) : State :=
  if allFF bs then
    if slot < 31 then s.beginScanRead (.content r (slot + 1)) (.ring r) (slot + 1)
    else (s.setSectorState r .erased).nextHeader r
  else (s.setSectorState r .spoiled).nextHeader r

/-- A read of the head's search has ended: the first slot not FFh throughout fixes the next slot, and REBUILD begins
(R138). -/
def headReadEnd (s : State) (r : RingSector) (epoch slot : Nat) (bs : List Byte) : State :=
  if allFF bs then
    if 1 < slot then s.beginScanRead (.head r epoch (slot - 1)) (.ring r) (slot - 1)
    else (s.setSectorState r (.opened epoch 1)).rebuildFrom RingSector.all
  else (s.setSectorState r (.opened epoch (slot + 1))).rebuildFrom RingSector.all

/-- A read that START owns ends with a slot's bytes, and the phase acts on them (R133). -/
def scanReadEnd (s : State) (bs : List Byte) : State :=
  match s.scan.step with
  | .config n => s.configReadEnd n bs
  | .header r => s.headerReadEnd r bs
  | .content r n => s.contentReadEnd r n bs
  | .head r e n => s.headReadEnd r e n bs
  | .rebuild r n => s.rebuildReadEnd r n bs
  | .done => s

end State

end Sys2Proof.Machine
end

