-- ==== Sys2Proof/Machine/RequestOps.lean ====
section
/-! DEFINITION. What each request kind does once the executor has taken it and the link's own checks have passed
(chapter 11), and the executor (R162, R163). -/

namespace Sys2Proof.Machine

namespace State

/-- A request of a kind is answered. -/
def reply (s : State) (k : RequestKind) (tag : Byte) (a : Answer) : State := s.answer k.code tag a

/-- A request is refused: a reply with a status and no other effect (R163). -/
def refuse (s : State) (k : RequestKind) (tag : Byte) (st : Status) : State := s.reply k tag (Answer.refuse st)

/-- The session is OPEN. -/
def sessionOpen (s : State) : Bool := s.service.session != .closed

/-! ## Reading requests (R172 to R177, R184) -/

/-- PING (R172). -/
def doPing (s : State) (tag : Byte) : State := s.reply .ping tag (Answer.ok pingPayload)

/-- GET_STATUS (R173). -/
def doGetStatus (s : State) (tag : Byte) : State := s.reply .getStatus tag (Answer.ok s.statusPayload)

/-- READ_CHANNEL (R174). -/
def doReadChannel (s : State) (tag : Byte) (p : List Byte) : State :=
  match Channel.ofNat? (field p 0 1) with
  | some c => s.reply .readChannel tag (Answer.ok (s.channelPayload c))
  | none => s.refuse .readChannel tag .badArgument

/-- READ_COMMITTED (R175). -/
def doReadCommitted (s : State) (tag : Byte) (p : List Byte) : State :=
  match Channel.ofNat? (field p 0 1) with
  | some c => s.reply .readCommitted tag (Answer.ok (s.committedPayload c))
  | none => s.refuse .readCommitted tag .badArgument

/-- GET_STORE_MAP (R176). -/
def doGetStoreMap (s : State) (tag : Byte) (p : List Byte) : State :=
  if 2 ≤ field p 0 1 ∧ field p 0 1 ≤ 15 then s.reply .getStoreMap tag (Answer.ok (s.storeMapPayload (field p 0 1)))
  else s.refuse .getStoreMap tag .badArgument

/-- READ_SLOT (R80, R177). -/
def doReadSlot (s : State) (tag : Byte) (p : List Byte) : State :=
  match Sector.ofNat? (field p 0 1), decide (field p 1 1 ≤ 31) with
  | some k, true =>
    match s.freeJobSlot? with
    | some w => (s.acceptJob w tag (.readSlot k (field p 1 1))).arbiter
    | none => s.refuse .readSlot tag .jobsFull
  | _, _ => s.refuse .readSlot tag .badArgument

/-- READ_CONFIG (R184). -/
def doReadConfig (s : State) (tag : Byte) (p : List Byte) : State :=
  let view := field p 0 1
  let item := field p 1 1
  match (if view = 0 then some s.config.live else if view = 1 then some s.config.staged else none).bind
      (fun c => configItemBytes c item) with
  | some bs => s.reply .readConfig tag (Answer.ok (leBytes 1 view ++ leBytes 1 item ++ bs))
  | none => s.refuse .readConfig tag .badArgument

/-! ## Tariff, commits and loads (R178, R179, R186) -/

/-- SET_TARIFF (R29, R178). -/
def doSetTariff (s : State) (tag : Byte) (p : List Byte) : State :=
  match Tariff.ofNat? (field p 0 1) with
  | none => s.refuse .setTariff tag .badArgument
  | some t =>
    if s.config.live.globals.tariffSource = .lines then s.refuse .setTariff tag .wrongSource
    else ((s.tariffSwitch t).reply .setTariff tag (Answer.ok (leBytes 1 t.toNat))).arbiter

/-- COMMIT (R44, R179). -/
def doCommit (s : State) (tag : Byte) (p : List Byte) : State :=
  let mask : ChannelMask := BitVec.ofNat 8 (field p 0 1)
  if mask = 0 then s.refuse .commit tag .badArgument
  else
    match s.freeJobSlot? with
    | none => s.refuse .commit tag .jobsFull
    | some w =>
      ((s.acceptJob w tag (.commitWait mask none)).deliverAll (maskChannels mask) .request (some w)).arbiter

/-- LOAD_TOTALS (R34, R186). -/
def doLoadTotals (s : State) (tag : Byte) (p : List Byte) : State :=
  if s.sessionOpen then
    match Channel.ofNat? (field p 0 1) with
    | none => s.refuse .loadTotals tag .badArgument
    | some c =>
      match s.freeJobSlot? with
      | none => s.refuse .loadTotals tag .jobsFull
      | some w => ((s.acceptJob w tag (.loadWait c)).loadEffect c (readBuckets p 1) w).arbiter
  else s.refuse .loadTotals tag .needsService

/-- RESTART: answered at once; its effect comes when its reply has been sent (R121, R187). -/
def doRestart (s : State) (tag : Byte) : State := s.reply .restart tag (Answer.ok [])

/-! ## Notices (R180, R181) -/

/-- FETCH_NOTICE (R151, R180). -/
def doFetchNotice (s : State) (tag : Byte) (p : List Byte) : State :=
  match yesNo? (field p 0 1) with
  | none => s.refuse .fetchNotice tag .badArgument
  | some masked =>
    match s.notices.highest? masked with
    | none => s.refuse .fetchNotice tag .noNotice
    | some k =>
      let r := s.notices.records.get k
      let s := s.takeNotice k
      s.reply .fetchNotice tag
        (Answer.ok (leBytes 1 k.number ++ leBytes 1 r.count ++ r.detail.bytes ++ [s.notices.records.pendingSet]))

/-- ACK_NOTICE (R153, R181). -/
def doAckNotice (s : State) (tag : Byte) : State :=
  (s.setNotices { s.notices with armed := true }).reply .ackNotice tag (Answer.ok [])

/-- SET_NOTICE_MASK: the set with POWER left out (R148, R153, R181). -/
def doSetNoticeMask (s : State) (tag : Byte) (p : List Byte) : State :=
  let mask : NoticeSet := BitVec.ofNat 8 (field p 0 1) &&& 0xFE
  (s.setNotices { s.notices with mask := mask }).reply .setNoticeMask tag (Answer.ok [mask])

/-! ## The service session and the configuration (R182, R183, R185) -/

/-- OPEN_SERVICE (R113, R182). -/
def doOpenService (s : State) (tag : Byte) : State :=
  match s.service.session with
  | .opened _ => (s.setService { s.service with session := .opened 0 }).reply .openService tag (Answer.ok [])
  | .closed =>
    if s.service.svcFiltered then
      ((s.setService { s.service with session := .opened 0 }).setConfig
        { s.config with staged := s.config.live }).reply .openService tag (Answer.ok [])
    else s.refuse .openService tag .svcLineInactive

/-- CLOSE_SERVICE (R116, R182). -/
def doCloseService (s : State) (tag : Byte) : State := (s.closeSession none).reply .closeService tag (Answer.ok [])

/-- The staged configuration replaced. -/
def setStaged (s : State) (c : Configuration) : State := s.setConfig { s.config with staged := c }

/-- STAGE_CHANNEL (R117, R183). -/
def doStageChannel (s : State) (tag : Byte) (p : List Byte) : State :=
  if s.sessionOpen then
    match Channel.ofNat? (field p 0 1), readChannelConfig p 1 with
    | some c, some k =>
      (s.setStaged { s.config.staged with channels := s.config.staged.channels.set c k }).reply .stageChannel tag
        (Answer.ok [])
    | _, _ => s.refuse .stageChannel tag .badArgument
  else s.refuse .stageChannel tag .needsService

/-- STAGE_GLOBALS (R117, R183). -/
def doStageGlobals (s : State) (tag : Byte) (p : List Byte) : State :=
  if s.sessionOpen then
    match readGlobalConfig p 0 with
    | some g => (s.setStaged { s.config.staged with globals := g }).reply .stageGlobals tag (Answer.ok [])
    | none => s.refuse .stageGlobals tag .badArgument
  else s.refuse .stageGlobals tag .needsService

/-- DISCARD_STAGED (R117, R183). -/
def doDiscardStaged (s : State) (tag : Byte) : State :=
  if s.sessionOpen then (s.setStaged s.config.live).reply .discardStaged tag (Answer.ok [])
  else s.refuse .discardStaged tag .needsService

/-- APPLY_CONFIG: the checks in order, then an APPLY job holding the staged image (R107, R185). -/
def doApplyConfig (s : State) (tag : Byte) : State :=
  if s.sessionOpen then
    if Config.maxGeneration ≤ s.config.generation then s.refuse .applyConfig tag .storeExhausted
    else
      match s.freeJobSlot? with
      | none => s.refuse .applyConfig tag .jobsFull
      | some w => (s.acceptJob w tag (.apply s.config.staged none)).arbiter
  else s.refuse .applyConfig tag .needsService

/-! ## The executor (R162, R163) -/

/-- What a request of a kind does after the link's checks. -/
def perform (s : State) (k : RequestKind) (tag : Byte) (p : List Byte) : State :=
  match k with
  | .ping => s.doPing tag
  | .getStatus => s.doGetStatus tag
  | .readChannel => s.doReadChannel tag p
  | .readCommitted => s.doReadCommitted tag p
  | .getStoreMap => s.doGetStoreMap tag p
  | .readSlot => s.doReadSlot tag p
  | .setTariff => s.doSetTariff tag p
  | .commit => s.doCommit tag p
  | .fetchNotice => s.doFetchNotice tag p
  | .ackNotice => s.doAckNotice tag
  | .setNoticeMask => s.doSetNoticeMask tag p
  | .openService => s.doOpenService tag
  | .closeService => s.doCloseService tag
  | .stageChannel => s.doStageChannel tag p
  | .stageGlobals => s.doStageGlobals tag p
  | .readConfig => s.doReadConfig tag p
  | .applyConfig => s.doApplyConfig tag
  | .discardStaged => s.doDiscardStaged tag
  | .loadTotals => s.doLoadTotals tag p
  | .restart => s.doRestart tag

/-- The request-queue head leaves the queue (R162). -/
def popRequest (s : State) : State := s.setLink { s.link with requests := s.link.requests.tail }

/-- A request of a known kind taken from the queue: the length check, then its own effect (R163). -/
def executeKnown (s : State) (k : RequestKind) (tag : Byte) (p : List Byte) (effect : State → State) : State :=
  if p.length = k.payloadLength then effect s.popRequest else s.popRequest.refuse k tag .badLength

/-- A request of an unknown kind taken from the queue (R163). -/
def executeUnknown (s : State) (kind tag : Byte) : State := s.popRequest.answer kind tag (Answer.refuse .unknownKind)

/-- The executor takes the request-queue head, if there is one, in RUN (R162, R163). -/
def executeHead (s : State) : State :=
  match s.power.device, s.link.requests with
  | .run, r :: _ =>
    match RequestKind.ofCode? r.kind with
    | some k => s.executeKnown k r.tag r.payload (fun s => s.perform k r.tag r.payload)
    | none => s.executeUnknown r.kind r.tag
  | _, _ => s

/-- A request is the one the executor takes next: the device state is RUN and it is the request-queue head (R162). -/
def atHead (s : State) (r : Request) : Bool := s.isRun && s.link.requests.head? == some r

/-- The executor takes a request of a kind, where it is the one it takes next; otherwise there is no such happening
(log 4: DESIGN CHOICE, log 10: DESIGN CHOICE). -/
def executeAs (s : State) (k : RequestKind) (tag : Byte) (p : List Byte) (effect : State → State) : State :=
  if s.atHead { kind := k.code, tag := tag, payload := p } then s.executeKnown k tag p effect else s

end State

end Sys2Proof.Machine
end

