-- ==== Sys2Proof/Machine/EndOps.lean ====
section
/-! DEFINITION. What the owner of an array operation does at its end, before the arbiter chooses again (R58): commit jobs and
copies (R73, R74, R88), compaction steps (R90 to R93), APPLY jobs and the apply swap (R109, R110), READ_SLOT jobs (R80). -/

namespace Sys2Proof.Machine

/-- A channel's mode, polarity or filter length differs between two configurations (R15). -/
def captureDiffers (a b : ChannelConfig) : Bool :=
  a.mode != b.mode || a.polarity != b.polarity || a.filter != b.filter

/-- The sector state a COUNT step leaves (R93). -/
def countedState (o : ProgramOutcome) (count : Nat) : SectorState :=
  if Config.wornCount ≤ count then .worn
  else
    match o with
    | .pass => .erased
    | .fail => .spoiled

namespace State

/-- The happening in which an operation for a task ends; nothing where no such operation is in progress (log 4: DESIGN CHOICE). -/
def atEnd (s : State) (t : Task) (f : Operation → State) : State :=
  match s.store.op with
  | some op => if op.task = t then f op else s
  | none => s

/-- The same for the end of an erase: ABORTED exactly where FLUSH entry has aborted it (R60). -/
def atEraseEnd (s : State) (t : Task) (o : EraseOutcome) (f : Operation → State) : State :=
  s.atEnd t (fun op => if (o == .aborted) = op.aborting then f op else s)

/-! ## Attempts -/

/-- A record program has ended (R54, R73). -/
def recordEnd (s : State) (o : ProgramOutcome) : State :=
  match s.store.holder with
  | none => s
  | some h =>
    match h.place with
    | none => s
    | some l =>
      if s.holderCut h then s.setHolder none
      else
        match o with
        | .pass => s.beginOp .confirmProgram (.ring l.sector) l.slot confirmOffset [0]
        | .fail => s.attemptFailed h l.sector

/-- A confirm program has ended (R54, R73, R76, R96). -/
def confirmEnd (s : State) (o : ProgramOutcome) : State :=
  match s.store.holder with
  | none => s
  | some h =>
    match h.place with
    | none => s
    | some l =>
      match o with
      | .pass => s.jobSucceeds h l
      | .fail => if s.holderCut h then s.setHolder none else s.attemptFailed h l.sector

/-- An epoch program has ended: the sector is OPEN and the attempt takes its slot 1, or it is SPOILED and the next candidate
is tried; a job cut by FLUSH entry does neither (R68). The sector is then that of the job's last operation that ended FAIL,
whether or not an attempt has failed before (R74; log 31: DEDUCED). -/
def epochEnd (s : State) (k : Sector) (o : ProgramOutcome) : State :=
  match k with
  | .config _ => s
  | .ring r =>
    let e := s.store.highestEpoch
    let s' := match o with
      | .pass => s.setSectorState r (.opened e 1)
      | .fail => s.setSectorState r .spoiled
    match s'.store.holder with
    | none => s'
    | some h =>
      if s'.holderCut h then s'.setHolder none
      else
        match o with
        | .pass => s'.beginRecord h r e 1
        | .fail => s'.openHead { h with fault := some r }

/-- The record a copy has read passes its check: valid, of the channel, with the map entry's sequence (R71, R88). -/
def copyCheck? (s : State) (c : Channel) (t : RingSector) (bs : List Byte) : Option ReadRecord :=
  match parseRecord bs, (s.store.map.get c).designated with
  | some x, some d =>
    if (s.entry t).state.isInUse ∧ x.content.channel = c ∧ x.sequence = d.sequence then some x else none
  | _, _ => none

/-- A copy's read has ended: the copy takes its tariff from the record, or from the active tariff with STORE_FAULT where the
check fails, its other values from the map entry, and its first attempt begins (R88). -/
def copyReadEnd (s : State) (bs : List Byte) : State :=
  match s.store.holder with
  | some { job := .reading c t, .. } =>
    if s.power.device = .flush then s.setHolder none
    else
      let e := s.store.map.get c
      let found := s.copyCheck? c t bs
      let s := if found.isSome then s else s.storeFault (.ring t)
      let h : Hold :=
        { job := .copy
            { channel := c, target := t, tariff := (found.map (fun x => x.content.tariff)).getD s.accum.tariff
              buckets := e.buckets, lost := e.lost }
          attempts := 0, place := none, sequence := 0, fault := none }
      (s.setHolder (some h)).nextAttempt h
  | _ => s

/-! ## Compaction steps -/

/-- The MARK program has ended, whatever its outcome (R90). -/
def retireEnd (s : State) (k : Sector) : State :=
  match k with
  | .config _ => s
  | .ring t => (s.setSectorState t .retiring).setPhase (.erase t 0)

/-- The third erase of an ERASE phase has ended FAIL (R92). -/
def wearOut (s : State) (t : RingSector) : State :=
  (((s.setSectorState t .worn).storeFault (.ring t)).setPhase .idle).testExhausted

/-- An erase of the target has ended (R91). -/
def eraseEnd (s : State) (o : EraseOutcome) : State :=
  match s.engine.phase with
  | .erase t n =>
    match o with
    | .pass => s.setPhase (.count t)
    | .fail => if Config.maxErases ≤ n + 1 then s.wearOut t else s.setPhase (.erase t (n + 1))
    | .aborted => (s.setSectorState t .spoiled).setPhase .idle
  | _ => s

/-- The COUNT program has ended (R93, R94, R95). -/
def countEnd (s : State) (o : ProgramOutcome) : State :=
  match s.engine.phase with
  | .count t =>
    let n := (s.entry t).eraseCount + 1
    let s := (s.setEntry t { s.entry t with eraseCount := n, state := countedState o n }).setPhase .idle
    if Config.wornCount ≤ n then s.testExhausted else s
  | _ => s

/-! ## APPLY jobs -/

/-- The capture unit at the apply swap: the channels whose mode, polarity or filter changed are re-initialised (R15). -/
def recapture (s : State) (old : Configuration) : State :=
  s.setCapture
    { s.capture with
      channels := PerChannel.ofFn (fun c =>
        let k := s.capture.channels.get c
        if captureDiffers (old.channels.get c) (s.config.live.channels.get c) then CaptureChannel.reinitialised k else k) }

/-- The interval timer restarts if the commit interval changed (R42, R110). -/
def retimeInterval (s : State) (old : Configuration) : State :=
  if old.globals.commitInterval = s.config.live.globals.commitInterval then s
  else s.setSched { s.sched with interval := 0 }

/-- The idle timer restarts if the idle timeout changed (R110, R114, R115). -/
def retimeIdle (s : State) (old : Configuration) : State :=
  if old.globals.idleTimeout = s.config.live.globals.idleTimeout then s else s.restartIdle

/-- The tariff at a change of the source from HOST to LINES (R32). -/
def resourceTariff (s : State) (old : Configuration) : State :=
  if old.globals.tariffSource = .host then s.followLines else s

/-- The staged configuration follows the live one while the session is CLOSED (R103, R110). -/
def followStaged (s : State) : State := if s.sessionOpen then s else s.setStaged s.config.live

/-- The swap that completes an APPLY: the target becomes the live sector, every channel is drained under the old settings,
and the image becomes live (R33, R110 steps 1 to 5). -/
def applySwap (s : State) (image : Configuration) (p : ApplyProgress) : State :=
  let old := s.config.live
  let s := s.drainAll
  let s := s.setConfig
    { s.config with live := image, generation := p.generation, liveSector := some p.target }
  ((((s.recapture old).resourceTariff old).retimeInterval old).retimeIdle old).followStaged

/-- An APPLY job fails (R109). -/
def applyFails (s : State) (w : JobSlot) (p : ApplyProgress) : State :=
  (s.storeFault p.target.sector).endJob w (Answer.refuse .storeFailed)

/-- The APPLY job at work, with its image and progress: the oldest array host job. None once FLUSH entry has cancelled it. -/
def applyJob? (s : State) : Option (JobSlot × Configuration × ApplyProgress) :=
  match s.arrayJob? with
  | some { slot := w, state := .apply image (some p), .. } => some (w, image, p)
  | _ => none

/-- An APPLY's erase has ended; the outcome is discarded if the job was cancelled (R109, R111). -/
def configEraseEnd (s : State) (o : EraseOutcome) : State :=
  match s.applyJob? with
  | none => s
  | some (w, image, p) =>
    match o with
    | .pass => s.setJobState w (.apply image (some { p with step := .program 3 }))
    | .fail => s.applyFails w p
    | .aborted => s

/-- An APPLY's slot program has ended; the outcome is discarded if the job was cancelled (R109, R110, R111). -/
def imageProgramEnd (s : State) (o : ProgramOutcome) : State :=
  match s.applyJob? with
  | none => s
  | some (w, image, p) =>
    match o, p.step with
    | .fail, _ => s.applyFails w p
    | .pass, .program (k + 1) => s.setJobState w (.apply image (some { p with step := .program k }))
    | .pass, .program 0 => (s.applySwap image p).endJob w (Answer.ok (leBytes 4 p.generation))
    | .pass, .erase => s

/-- A READ_SLOT job's read has ended; the bytes are discarded if the job was cancelled (R60, R80). -/
def slotReadEnd (s : State) (bs : List Byte) : State :=
  match s.arrayJob? with
  | some { slot := w, state := .readSlot _ _, .. } => s.endJob w (Answer.ok bs)
  | _ => s

end State

end Sys2Proof.Machine
end

