-- ==== Sys2Proof/Machine/SupplyEvents.lean ====
section
/-! DEFINITION. The commands of the supply and the RESET line: POWER_ON, RESET_LINE_ACTIVE, RESET_RELEASE, SUPPLY_LOSS
(R61, R132, R194). -/

namespace Sys2Proof.Machine

/-- POWER_ON: START is entered with cause POWER_ON, the synchronisers take the pins' levels as their first samples, and the
phases of START begin (R4, R119, R132, R133; log 14: DEDUCED, log 16: DEDUCED). -/
def execPowerOn (levels : PinLevels) (s : State) : Host.Outcome State Fault Refusal := .next (s.powerUp levels)

/-- RESET_LINE_ACTIVE: RESET goes low, its active level (R193): the array operation in progress is torn and START is entered
with cause RESET_LINE and held there (R61, R119, R132). The line of a part without supply only stands active; a line already
active does not become so again (log 4: DESIGN CHOICE). -/
def execResetLineActive (s : State) : Host.Outcome State Fault Refusal :=
  if s.supply.resetLine then .next s
  else
    let s := s.setSupply { s.supply with resetLine := true }
    .next (if s.supply.powered then s.tear.startEntry .resetLine else s)

/-- RESET_RELEASE: RESET goes high (R193): the timebase starts from the release, the filters take the line levels, the straps
are read and the phases of START begin (R1, R30, R112, R118, R132, R133, R155). -/
def execResetRelease (s : State) : Host.Outcome State Fault Refusal :=
  if s.supply.resetLine then
    let s := s.setSupply { s.supply with resetLine := false }
    .next (if s.supply.powered then s.takeLines.beginPhases else s)
  else .next s

/-- SUPPLY_LOSS: the part stops, an array operation in progress is torn, working memory is lost (R61, R194; log 15: DESIGN CHOICE). -/
def execSupplyLoss (s : State) : Host.Outcome State Fault Refusal := .next (if s.supply.powered then s.loseSupply else s)

end Sys2Proof.Machine
end

