-- ==== Sys2Proof/Machine/TimeEvents.lean ====
section
/-! DEFINITION. The commands of the timebase: TICK and SECOND_EVENT, and the timer expiries that are happenings of a second
event or a tick: INTERVAL_TIMER_EXPIRY, IDLE_TIMER_EXPIRY, RESUME_TIMER_EXPIRY (R1, R2; log 6: DEDUCED, log 7: DESIGN CHOICE). -/

namespace Sys2Proof.Machine

namespace State

/-- The retry wait is cleared at a second event (R89). -/
def clearRetryWait (s : State) : State := s.setEngine { s.engine with retryWait := false }

/-- The interval timer at a second event: expiry where it is due, else one more second counted; held outside RUN and off with
interval 0 (R41, R42). -/
def intervalSecond (s : State) : State :=
  if s.intervalDue then s.intervalExpiry
  else if s.intervalRuns then s.setSched { s.sched with interval := s.sched.interval + 1 }
  else s

/-- The idle timer at a second event: the session closes where it is due, else one more second counted while OPEN
(R114, R115). -/
def idleSecond (s : State) : State :=
  if s.idleDue then s.closeSession (some .timeout)
  else
    match s.service.session with
    | .closed => s
    | .opened n => s.setService { s.service with session := .opened (n + 1) }

/-- What a second event does at its receivers (R1): the retry wait, the interval timer, the idle timer. -/
def secondEffects (s : State) : State := s.clearRetryWait.intervalSecond.idleSecond

/-- The second event: the second counter starts again and the receivers take it (R1). -/
def takeSecond (s : State) : State := (s.setTimebase { s.timebase with second := 0 }).secondEffects

/-- The second counter's share of a tick: at the 1,000th tick the counter starts again and the second event happens (R1). -/
def secondTick (s : State) : State :=
  if s.secondDue then s.takeSecond
  else s.setTimebase { s.timebase with second := s.timebase.second + 1 }

/-- What a tick does at its receivers before the arbiter looks (R1, R24, R162; log 7: DESIGN CHOICE). -/
def tickEffects (s : State) : State :=
  s.secondTick.svcTick.tselTick.captureTick.gapTick.drainRound.executeHead.resumeTick

end State

/-- TICK (R1, R5, R8, R24, R30, R112, R129, R157, R162): everything the tick completes, in the order of log 7, and then the
arbiter's choice (log 25: DEDUCED). The timebase stands still without supply and while the RESET line is active (R1). -/
def execTick (s : State) : Host.Outcome State Fault Refusal := .next (if s.alive then s.tickEffects.arbiter else s)

/-- SECOND_EVENT: the happening of the 1,000th tick alone (R1, R41, R89, R114; log 6: DEDUCED). -/
def execSecondEvent (s : State) : Host.Outcome State Fault Refusal :=
  .next (if s.alive && s.secondDue then s.takeSecond.arbiter else s)

/-- INTERVAL_TIMER_EXPIRY: the second event in whose happening the interval timer expires; every dirty channel is given INTERVAL
and the count returns to 0 (R2, R41; log 6: DEDUCED). -/
def execIntervalTimerExpiry (s : State) : Host.Outcome State Fault Refusal :=
  .next (if s.alive && s.secondDue && s.intervalDue then s.takeSecond.arbiter else s)

/-- IDLE_TIMER_EXPIRY: the second event in whose happening the service idle timer expires; the session closes with reason TIMEOUT
(R2, R114, R116; log 6: DEDUCED). -/
def execIdleTimerExpiry (s : State) : Host.Outcome State Fault Refusal :=
  .next (if s.alive && s.secondDue && s.idleDue then s.takeSecond.arbiter else s)

/-- RESUME_TIMER_EXPIRY: at the tick that completes 10 ms of PFAIL inactivity RETAIN ends (R129; log 6: DEDUCED). -/
def execResumeTimerExpiry (s : State) : Host.Outcome State Fault Refusal :=
  .next (if s.alive && s.resumeDue then s.resumeExpiry else s)

end Sys2Proof.Machine
end

