-- ==== Sys2Proof/Machine/InputEvents.lean ====
section
/-! DEFINITION. The commands of the inputs: SYNCHRONISED_LEVEL_CHANGE, FILTERED_LEVEL_CHANGE, TSEL_FILTERED_CHANGE,
SVC_FILTERED_CHANGE, PFAIL_ACTIVE, PFAIL_INACTIVE (chapters 1, 2, 6, 7). -/

namespace Sys2Proof.Machine

namespace State

/-- A channel's synchronised level takes a level; with filter 0 on a LIVE capture unit the filtered level follows at once
(R4, R6, R7). -/
def syncChannel (s : State) (c : Channel) (level : Level) : State :=
  if (s.capture.channels.get c).sync = level then s
  else
    let s := s.setCaptureChannel c { s.capture.channels.get c with sync := level }
    if s.capture.state = .live ∧ (s.liveChannel c).filter = 0 ∧ (s.capture.channels.get c).filtered ≠ level then
      s.changeFiltered c
    else s

/-- A pin's synchronised level, or a strap's level, takes a level (R4, R30, R112, R118, R155; log 13: DEDUCED). -/
def syncPin (s : State) (p : Pin) (level : Level) : State :=
  match p with
  | .channel c => s.syncChannel c level
  | .tsel0 => s.setAccum { s.accum with tsel := { s.accum.tsel with line0 := level } }
  | .tsel1 => s.setAccum { s.accum with tsel := { s.accum.tsel with line1 := level } }
  | .svc => s.setService { s.service with svcSync := activeLow level }
  | .pfail => s.setPower { s.power with pfailSync := activeLow level }
  | .baud0 => s.setPins { s.pins with baud0 := level }
  | .baud1 => s.setPins { s.pins with baud1 := level }

/-- The PFAIL filter takes a level, true when active (R118). -/
def setPfail (s : State) (active : Bool) : State :=
  s.setPower { s.power with pfailSync := active, pfailFiltered := active, pfailRun := 0 }

/-- The resume timer replaced: none stops it (R129). -/
def setResume (s : State) (t : Option Nat) : State := s.setPower { s.power with resume := t }

/-- What a filtered change of PFAIL to active does in each device state (R118, R120, R129). -/
def pfailRises (s : State) : State :=
  let s := s.setPfail true
  match s.power.device with
  | .run => s.flushEntry
  | .retain => s.setResume none
  | .start => s
  | .flush => s

/-- What a filtered change of PFAIL to inactive does in each device state (R118, R129). -/
def pfailFalls (s : State) : State :=
  let s := s.setPfail false
  match s.power.device with
  | .retain => s.setResume (some 0)
  | .run => s
  | .start => s
  | .flush => s

end State

/-- SYNCHRONISED_LEVEL_CHANGE: a synchroniser resolves a new level of its pin (R4, R6). -/
def execSynchronisedLevelChange (pin : Pin) (level : Level) (s : State) : Host.Outcome State Fault Refusal :=
  .next (if s.supply.powered then s.syncPin pin level else s)

/-- FILTERED_LEVEL_CHANGE: at the tick that completes a channel's filter run its filtered level takes the synchronised level
(R5, R7; log 6: DEDUCED). -/
def execFilteredLevelChange (channel : Channel) (s : State) : Host.Outcome State Fault Refusal :=
  .next (if s.alive && s.filterDue channel then s.changeFiltered channel else s)

/-- TSEL_FILTERED_CHANGE: at the tick that completes the tariff select filter's run the filtered value changes; under LINES in
RUN that is a tariff switch (R30, R31; log 6: DEDUCED). -/
def execTselFilteredChange (s : State) : Host.Outcome State Fault Refusal :=
  .next (if s.tselDue then s.tselChange.arbiter else s)

/-- SVC_FILTERED_CHANGE: at the tick that completes the SVC filter's run the filtered level changes; to inactive, an OPEN
session closes (R112, R116; log 6: DEDUCED). -/
def execSvcFilteredChange (s : State) : Host.Outcome State Fault Refusal := .next (if s.svcDue then s.svcChange else s)

/-- PFAIL_ACTIVE: PFAIL is qualified active (R118, R120, R129; log 12: DESIGN CHOICE). -/
def execPfailActive (s : State) : Host.Outcome State Fault Refusal :=
  .next (if s.supply.powered && !s.power.pfailFiltered then s.pfailRises else s)

/-- PFAIL_INACTIVE: PFAIL is qualified inactive (R118, R129; log 12: DESIGN CHOICE). -/
def execPfailInactive (s : State) : Host.Outcome State Fault Refusal :=
  .next (if s.supply.powered && s.power.pfailFiltered then s.pfailFalls else s)

end Sys2Proof.Machine
end

