-- ==== Sys2Proof/Machine/ArrayEnds.lean ====
section
/-! DEFINITION. The commands that end array operations: in each the operation ends, its owner reacts and the arbiter chooses
again, all in one happening (R58, R77; log 25: DEDUCED). An end that no operation in progress can have changes nothing (log 4: DESIGN CHOICE). -/

namespace Sys2Proof.Machine

/-- SCAN_READ_END: a read of START ends DONE and the phase acts on the bytes (R133, R134, R135, R136, R138, R139). -/
def execScanReadEnd (s : State) : Host.Outcome State Fault Refusal :=
  .next (s.atEnd .scanRead fun op => (s.setOp none).scanReadEnd (s.slotBytes op.sector op.slot))

/-- RECORD_PROGRAM_END: on PASS the confirm program begins, on FAIL the slot is spoiled and the job goes on or fails
(R54, R59, R73, R74). -/
def execRecordProgramEnd (outcome : ProgramOutcome) (s : State) : Host.Outcome State Fault Refusal :=
  .next (s.atEnd .recordProgram fun op => ((s.endProgram op outcome).recordEnd outcome).arbiter)

/-- CONFIRM_PROGRAM_END: on PASS the job succeeds, on FAIL it goes on or fails (R49, R54, R59, R73, R74, R76, R96). -/
def execConfirmProgramEnd (outcome : ProgramOutcome) (s : State) : Host.Outcome State Fault Refusal :=
  .next (s.atEnd .confirmProgram fun op => ((s.endProgram op outcome).confirmEnd outcome).arbiter)

/-- EPOCH_PROGRAM_END: on PASS the sector is OPEN and the attempt takes its slot 1, on FAIL it is SPOILED and the next
candidate is tried (R59, R68). -/
def execEpochProgramEnd (outcome : ProgramOutcome) (s : State) : Host.Outcome State Fault Refusal :=
  .next (s.atEnd .epochProgram fun op => ((s.endProgram op outcome).epochEnd op.sector outcome).arbiter)

/-- COPY_READ_END: the copied record is checked and the copy's first attempt begins (R88, R96). -/
def execCopyReadEnd (s : State) : Host.Outcome State Fault Refusal :=
  .next (s.atEnd .copyRead fun op => ((s.setOp none).copyReadEnd (s.slotBytes op.sector op.slot)).arbiter)

/-- RETIRE_PROGRAM_END: the target becomes RETIRING whatever the outcome and the engine enters ERASE (R59, R90). -/
def execRetireProgramEnd (outcome : ProgramOutcome) (s : State) : Host.Outcome State Fault Refusal :=
  .next (s.atEnd .retireProgram fun op => ((s.endProgram op outcome).retireEnd op.sector).arbiter)

/-- ERASE_END: COUNT, another erase, WORN or SPOILED (R59, R60, R91, R92). -/
def execEraseEnd (outcome : EraseOutcome) (s : State) : Host.Outcome State Fault Refusal :=
  .next (s.atEraseEnd .ringErase outcome fun op => ((s.endErase op outcome).eraseEnd outcome).arbiter)

/-- COUNT_PROGRAM_END: the target becomes ERASED, SPOILED or WORN and the engine IDLE (R59, R93, R94, R95). -/
def execCountProgramEnd (outcome : ProgramOutcome) (s : State) : Host.Outcome State Fault Refusal :=
  .next (s.atEnd .countProgram fun op => ((s.endProgram op outcome).countEnd outcome).arbiter)

/-- CONFIG_ERASE_END: an APPLY job's erase ends (R59, R60, R109, R111). -/
def execConfigEraseEnd (outcome : EraseOutcome) (s : State) : Host.Outcome State Fault Refusal :=
  .next (s.atEraseEnd .configErase outcome fun op => ((s.endErase op outcome).configEraseEnd outcome).arbiter)

/-- IMAGE_PROGRAM_END: an APPLY job's slot program ends: the next slot follows, or the swap, or the job fails
(R33, R59, R109, R110, R111). -/
def execImageProgramEnd (outcome : ProgramOutcome) (s : State) : Host.Outcome State Fault Refusal :=
  .next (s.atEnd .imageProgram fun op => ((s.endProgram op outcome).imageProgramEnd outcome).arbiter)

/-- SLOT_READ_END: a READ_SLOT job's reply carries the bytes, or they are discarded if it was cancelled (R60, R80). -/
def execSlotReadEnd (s : State) : Host.Outcome State Fault Refusal :=
  .next (s.atEnd .slotRead fun op => ((s.setOp none).slotReadEnd (s.slotBytes op.sector op.slot)).arbiter)

end Sys2Proof.Machine
end

