-- ==== Sys2Proof/Machine/LinkEvents.lean ====
section
/-! DEFINITION. The commands of the serial line: CHARACTER_RECEIVED, REQUEST_FRAME, GAP_TIMER_EXPIRY, REPLY_SENT
(R156 to R159, R166). -/

namespace Sys2Proof.Machine

/-- REQUEST_FRAME: the frame's second check byte is taken where the receiver waits for it; a good frame is admitted or
discarded by the tests in order, a bad one is discarded with CHECK (R156, R158, R159; log 11: DEDUCED). -/
def execRequestFrame (last : Byte) (s : State) : Host.Outcome State Fault Refusal :=
  .next
    (match s.alive, s.link.receiver with
    | true, .check len stored (some first) => s.completeFrame len stored first last
    | _, _ => s)

/-- GAP_TIMER_EXPIRY: at the fifth tick without a character the frame in progress is discarded with GAP (R157; log 6: DEDUCED). -/
def execGapTimerExpiry (s : State) : Host.Outcome State Fault Refusal := .next (if s.gapDue then s.gapExpiry else s)

/-- REPLY_SENT: the last byte of the reply being sent leaves: its credit is returned, an accepted RESTART acts, the next reply
begins, and the reply wait may end (R121, R127, R160, R166). -/
def execReplySent (s : State) : Host.Outcome State Fault Refusal := .next s.sendReply

/-- CHARACTER_RECEIVED: the receiver takes a character, but not while the RESET line is active (R155, R156). -/
def execCharacterReceived (byte : Byte) (framingError : Bool) (s : State) : Host.Outcome State Fault Refusal :=
  .next (if s.alive then s.takeCharacter byte framingError else s)

end Sys2Proof.Machine
end

