-- ==== Sys2Proof/Machine/ReadRequests.lean ====
section
/-! DEFINITION. The executor's execution of the requests that read: PING, GET_STATUS, READ_CHANNEL, READ_COMMITTED,
GET_STORE_MAP, READ_SLOT, READ_CONFIG (R172 to R177, R184). Each runs only where the request is the one the executor
takes next (R162; log 4: DESIGN CHOICE, log 10: DESIGN CHOICE). -/

namespace Sys2Proof.Machine

/-- PING: after the length check, the fixed identity (R172, R163). -/
def execPing (tag : Byte) (payload : List Byte) (s : State) : Host.Outcome State Fault Refusal :=
  .next (s.executeAs .ping tag payload fun s => s.doPing tag)

/-- GET_STATUS: after the length check, the sixteen items (R173, R163). -/
def execGetStatus (tag : Byte) (payload : List Byte) (s : State) : Host.Outcome State Fault Refusal :=
  .next (s.executeAs .getStatus tag payload fun s => s.doGetStatus tag)

/-- READ_CHANNEL: after the length check, one channel's live totals (R174, R163). -/
def execReadChannel (tag : Byte) (payload : List Byte) (s : State) : Host.Outcome State Fault Refusal :=
  .next (s.executeAs .readChannel tag payload fun s => s.doReadChannel tag payload)

/-- READ_COMMITTED: after the length check, one channel's commit-map entry (R175, R163). -/
def execReadCommitted (tag : Byte) (payload : List Byte) (s : State) : Host.Outcome State Fault Refusal :=
  .next (s.executeAs .readCommitted tag payload fun s => s.doReadCommitted tag payload)

/-- GET_STORE_MAP: after the length check, up to eight ring sectors of the table (R176, R163). -/
def execGetStoreMap (tag : Byte) (payload : List Byte) (s : State) : Host.Outcome State Fault Refusal :=
  .next (s.executeAs .getStoreMap tag payload fun s => s.doGetStoreMap tag payload)

/-- READ_SLOT: after the length check, a job that reads one slot of the array (R80, R177, R163). -/
def execReadSlot (tag : Byte) (payload : List Byte) (s : State) : Host.Outcome State Fault Refusal :=
  .next (s.executeAs .readSlot tag payload fun s => s.doReadSlot tag payload)

/-- READ_CONFIG: after the length check, one item of the live or the staged configuration (R184, R163). -/
def execReadConfig (tag : Byte) (payload : List Byte) (s : State) : Host.Outcome State Fault Refusal :=
  .next (s.executeAs .readConfig tag payload fun s => s.doReadConfig tag payload)

end Sys2Proof.Machine
end

