-- ==== Sys2Proof/Machine/CommitRequests.lean ====
section
/-! DEFINITION. The executor's execution of the requests that change totals and commit them: SET_TARIFF, COMMIT,
LOAD_TOTALS (R178, R179, R186), and RESTART (R187). Each runs only where the request is the one the executor takes
next (R162; log 4: DESIGN CHOICE, log 10: DESIGN CHOICE). -/

namespace Sys2Proof.Machine

/-- SET_TARIFF: after the length check, a tariff switch under HOST (R28, R29, R178, R163). -/
def execSetTariff (tag : Byte) (payload : List Byte) (s : State) : Host.Outcome State Fault Refusal :=
  .next (s.executeAs .setTariff tag payload fun s => s.doSetTariff tag payload)

/-- COMMIT: after the length check, a COMMIT_WAIT job and cause REQUEST for the channels of the mask (R44, R179, R163). -/
def execCommit (tag : Byte) (payload : List Byte) (s : State) : Host.Outcome State Fault Refusal :=
  .next (s.executeAs .commit tag payload fun s => s.doCommit tag payload)

/-- LOAD_TOTALS: after the length check, a LOAD_WAIT job and the LOAD effect (R34, R45, R186, R163). -/
def execLoadTotals (tag : Byte) (payload : List Byte) (s : State) : Host.Outcome State Fault Refusal :=
  .next (s.executeAs .loadTotals tag payload fun s => s.doLoadTotals tag payload)

/-- RESTART: after the length check, an OK reply whose sending restarts the part (R121, R187, R163). -/
def execRestart (tag : Byte) (payload : List Byte) (s : State) : Host.Outcome State Fault Refusal :=
  .next (s.executeAs .restart tag payload fun s => s.doRestart tag)

end Sys2Proof.Machine
end

