-- ==== Sys2Proof/Machine/NoticeRequests.lean ====
section
/-! DEFINITION. The executor's execution of the requests of the notice unit: FETCH_NOTICE, ACK_NOTICE, SET_NOTICE_MASK
(R180, R181). Each runs only where the request is the one the executor takes next (R162; log 4: DESIGN CHOICE, log 10: DESIGN CHOICE). -/

namespace Sys2Proof.Machine

/-- FETCH_NOTICE: after the length check, the pending notice of the highest priority is returned and cleared, and the unit
disarmed (R151, R180, R163). -/
def execFetchNotice (tag : Byte) (payload : List Byte) (s : State) : Host.Outcome State Fault Refusal :=
  .next (s.executeAs .fetchNotice tag payload fun s => s.doFetchNotice tag payload)

/-- ACK_NOTICE: after the length check, the unit is armed (R153, R181, R163). -/
def execAckNotice (tag : Byte) (payload : List Byte) (s : State) : Host.Outcome State Fault Refusal :=
  .next (s.executeAs .ackNotice tag payload fun s => s.doAckNotice tag)

/-- SET_NOTICE_MASK: after the length check, the mask is replaced, POWER left out (R148, R153, R181, R163). -/
def execSetNoticeMask (tag : Byte) (payload : List Byte) (s : State) : Host.Outcome State Fault Refusal :=
  .next (s.executeAs .setNoticeMask tag payload fun s => s.doSetNoticeMask tag payload)

end Sys2Proof.Machine
end

