-- ==== Sys2Proof/Machine/ServiceRequests.lean ====
section
/-! DEFINITION. The executor's execution of the requests of the service session and the configuration: OPEN_SERVICE,
CLOSE_SERVICE, STAGE_CHANNEL, STAGE_GLOBALS, DISCARD_STAGED, APPLY_CONFIG (R182, R183, R185), and UNKNOWN_KIND (R163).
Each runs only where the request is the one the executor takes next (R162; log 4: DESIGN CHOICE, log 10: DESIGN CHOICE). -/

namespace Sys2Proof.Machine

/-- OPEN_SERVICE: after the length check, the session opens while SVC is active (R113, R182, R163). -/
def execOpenService (tag : Byte) (payload : List Byte) (s : State) : Host.Outcome State Fault Refusal :=
  .next (s.executeAs .openService tag payload fun s => s.doOpenService tag)

/-- CLOSE_SERVICE: after the length check, the session closes without a notice (R116, R182, R163). -/
def execCloseService (tag : Byte) (payload : List Byte) (s : State) : Host.Outcome State Fault Refusal :=
  .next (s.executeAs .closeService tag payload fun s => s.doCloseService tag)

/-- STAGE_CHANNEL: after the length check, one channel's staged settings are replaced (R117, R183, R163). -/
def execStageChannel (tag : Byte) (payload : List Byte) (s : State) : Host.Outcome State Fault Refusal :=
  .next (s.executeAs .stageChannel tag payload fun s => s.doStageChannel tag payload)

/-- STAGE_GLOBALS: after the length check, the staged global settings are replaced (R117, R183, R163). -/
def execStageGlobals (tag : Byte) (payload : List Byte) (s : State) : Host.Outcome State Fault Refusal :=
  .next (s.executeAs .stageGlobals tag payload fun s => s.doStageGlobals tag payload)

/-- DISCARD_STAGED: after the length check, the staged configuration is set equal to the live one (R117, R183, R163). -/
def execDiscardStaged (tag : Byte) (payload : List Byte) (s : State) : Host.Outcome State Fault Refusal :=
  .next (s.executeAs .discardStaged tag payload fun s => s.doDiscardStaged tag)

/-- APPLY_CONFIG: after the length check, an APPLY job that holds the staged image (R107, R185, R163). -/
def execApplyConfig (tag : Byte) (payload : List Byte) (s : State) : Host.Outcome State Fault Refusal :=
  .next (s.executeAs .applyConfig tag payload fun s => s.doApplyConfig tag)

/-- UNKNOWN_KIND: a request whose KIND is no request kind is answered UNKNOWN_KIND (R163, R165). -/
def execUnknownKind (kind tag : Byte) (payload : List Byte) (s : State) : Host.Outcome State Fault Refusal :=
  .next
    (if s.atHead { kind := kind, tag := tag, payload := payload } && (RequestKind.ofCode? kind).isNone then
      s.executeUnknown kind tag
    else s)

end Sys2Proof.Machine
end

