-- ==== Sys2Proof/Machine/Dispatch.lean ====
section
/-! DEFINITION. What each command does to everything but the command queue: one arm for each row of the opcode table. -/

namespace Sys2Proof.Machine

def exec (i : Instr) (s : State) : Host.Outcome State Fault Refusal :=
  match i with
  | .powerOn levels => Sys2Proof.Machine.execPowerOn levels s
  | .resetLineActive => Sys2Proof.Machine.execResetLineActive s
  | .resetRelease => Sys2Proof.Machine.execResetRelease s
  | .supplyLoss => Sys2Proof.Machine.execSupplyLoss s
  | .tick => Sys2Proof.Machine.execTick s
  | .secondEvent => Sys2Proof.Machine.execSecondEvent s
  | .synchronisedLevelChange pin level => Sys2Proof.Machine.execSynchronisedLevelChange pin level s
  | .filteredLevelChange channel => Sys2Proof.Machine.execFilteredLevelChange channel s
  | .tselFilteredChange => Sys2Proof.Machine.execTselFilteredChange s
  | .intervalTimerExpiry => Sys2Proof.Machine.execIntervalTimerExpiry s
  | .svcFilteredChange => Sys2Proof.Machine.execSvcFilteredChange s
  | .idleTimerExpiry => Sys2Proof.Machine.execIdleTimerExpiry s
  | .pfailActive => Sys2Proof.Machine.execPfailActive s
  | .pfailInactive => Sys2Proof.Machine.execPfailInactive s
  | .resumeTimerExpiry => Sys2Proof.Machine.execResumeTimerExpiry s
  | .scanReadEnd => Sys2Proof.Machine.execScanReadEnd s
  | .recordProgramEnd outcome => Sys2Proof.Machine.execRecordProgramEnd outcome s
  | .confirmProgramEnd outcome => Sys2Proof.Machine.execConfirmProgramEnd outcome s
  | .epochProgramEnd outcome => Sys2Proof.Machine.execEpochProgramEnd outcome s
  | .copyReadEnd => Sys2Proof.Machine.execCopyReadEnd s
  | .retireProgramEnd outcome => Sys2Proof.Machine.execRetireProgramEnd outcome s
  | .eraseEnd outcome => Sys2Proof.Machine.execEraseEnd outcome s
  | .countProgramEnd outcome => Sys2Proof.Machine.execCountProgramEnd outcome s
  | .configEraseEnd outcome => Sys2Proof.Machine.execConfigEraseEnd outcome s
  | .imageProgramEnd outcome => Sys2Proof.Machine.execImageProgramEnd outcome s
  | .slotReadEnd => Sys2Proof.Machine.execSlotReadEnd s
  | .requestFrame last => Sys2Proof.Machine.execRequestFrame last s
  | .gapTimerExpiry => Sys2Proof.Machine.execGapTimerExpiry s
  | .replySent => Sys2Proof.Machine.execReplySent s
  | .ping tag payload => Sys2Proof.Machine.execPing tag payload s
  | .getStatus tag payload => Sys2Proof.Machine.execGetStatus tag payload s
  | .readChannel tag payload => Sys2Proof.Machine.execReadChannel tag payload s
  | .readCommitted tag payload => Sys2Proof.Machine.execReadCommitted tag payload s
  | .getStoreMap tag payload => Sys2Proof.Machine.execGetStoreMap tag payload s
  | .readSlot tag payload => Sys2Proof.Machine.execReadSlot tag payload s
  | .setTariff tag payload => Sys2Proof.Machine.execSetTariff tag payload s
  | .commit tag payload => Sys2Proof.Machine.execCommit tag payload s
  | .fetchNotice tag payload => Sys2Proof.Machine.execFetchNotice tag payload s
  | .ackNotice tag payload => Sys2Proof.Machine.execAckNotice tag payload s
  | .setNoticeMask tag payload => Sys2Proof.Machine.execSetNoticeMask tag payload s
  | .openService tag payload => Sys2Proof.Machine.execOpenService tag payload s
  | .closeService tag payload => Sys2Proof.Machine.execCloseService tag payload s
  | .stageChannel tag payload => Sys2Proof.Machine.execStageChannel tag payload s
  | .stageGlobals tag payload => Sys2Proof.Machine.execStageGlobals tag payload s
  | .readConfig tag payload => Sys2Proof.Machine.execReadConfig tag payload s
  | .applyConfig tag payload => Sys2Proof.Machine.execApplyConfig tag payload s
  | .discardStaged tag payload => Sys2Proof.Machine.execDiscardStaged tag payload s
  | .loadTotals tag payload => Sys2Proof.Machine.execLoadTotals tag payload s
  | .restart tag payload => Sys2Proof.Machine.execRestart tag payload s
  | .unknownKind kind tag payload => Sys2Proof.Machine.execUnknownKind kind tag payload s
  | .characterReceived byte framingError => Sys2Proof.Machine.execCharacterReceived byte framingError s

end Sys2Proof.Machine
end

