-- ==== Sys2Proof/WellFormed.lean ====
section
/-! DEFINITION. Which commands are well formed: the operands a row's happening can have. -/

namespace Sys2Proof

namespace Instr

/-- The request a command executes: its KIND byte, its tag, its payload; none for a command that is no execution. -/
def request? : Instr → Option (Byte × Byte × List Byte)
  | .ping t p => some (Machine.RequestKind.ping.code, t, p)
  | .getStatus t p => some (Machine.RequestKind.getStatus.code, t, p)
  | .readChannel t p => some (Machine.RequestKind.readChannel.code, t, p)
  | .readCommitted t p => some (Machine.RequestKind.readCommitted.code, t, p)
  | .getStoreMap t p => some (Machine.RequestKind.getStoreMap.code, t, p)
  | .readSlot t p => some (Machine.RequestKind.readSlot.code, t, p)
  | .setTariff t p => some (Machine.RequestKind.setTariff.code, t, p)
  | .commit t p => some (Machine.RequestKind.commit.code, t, p)
  | .fetchNotice t p => some (Machine.RequestKind.fetchNotice.code, t, p)
  | .ackNotice t p => some (Machine.RequestKind.ackNotice.code, t, p)
  | .setNoticeMask t p => some (Machine.RequestKind.setNoticeMask.code, t, p)
  | .openService t p => some (Machine.RequestKind.openService.code, t, p)
  | .closeService t p => some (Machine.RequestKind.closeService.code, t, p)
  | .stageChannel t p => some (Machine.RequestKind.stageChannel.code, t, p)
  | .stageGlobals t p => some (Machine.RequestKind.stageGlobals.code, t, p)
  | .readConfig t p => some (Machine.RequestKind.readConfig.code, t, p)
  | .applyConfig t p => some (Machine.RequestKind.applyConfig.code, t, p)
  | .discardStaged t p => some (Machine.RequestKind.discardStaged.code, t, p)
  | .loadTotals t p => some (Machine.RequestKind.loadTotals.code, t, p)
  | .restart t p => some (Machine.RequestKind.restart.code, t, p)
  | .unknownKind k t p => some (k, t, p)
  | .powerOn _ | .resetLineActive | .resetRelease | .supplyLoss | .tick | .secondEvent | .synchronisedLevelChange _ _
  | .filteredLevelChange _ | .tselFilteredChange | .intervalTimerExpiry | .svcFilteredChange | .idleTimerExpiry
  | .pfailActive | .pfailInactive | .resumeTimerExpiry | .scanReadEnd | .recordProgramEnd _ | .confirmProgramEnd _
  | .epochProgramEnd _ | .copyReadEnd | .retireProgramEnd _ | .eraseEnd _ | .countProgramEnd _ | .configEraseEnd _
  | .imageProgramEnd _ | .slotReadEnd | .requestFrame _ | .gapTimerExpiry | .replySent | .characterReceived _ _ => none

/-- A payload is one a frame can carry: 0 to 60 bytes (10, 10.2). -/
def payloadFits (p : List Byte) : Bool := decide (p.length ≤ 60)

/-- A command is well formed: its payload fits a frame, and an UNKNOWN_KIND names no request kind (R163, R170). -/
def wellFormed (c : Instr) : Bool :=
  match c with
  | .unknownKind k _ p => payloadFits p && (Machine.RequestKind.ofCode? k).isNone
  | c => (c.request?).all (fun r => payloadFits r.2.2)

end Instr

end Sys2Proof
end

