-- ==== Sys2Proof/Safety.lean ====
section
/-! DEFINITION. What a safe run keeps: the laws of the part as predicates on one state, and the words the statements are
made of (which blocks two states differ in, what the entry into START sets, what a tear spares). -/

namespace Sys2Proof.Machine

/-! ## Frames -/

/-- The blocks of the state. -/
inductive Block where
  | pending
  | supply
  | pins
  | timebase
  | capture
  | accum
  | sched
  | store
  | array
  | engine
  | config
  | service
  | power
  | notices
  | link
  | scan
  | free
deriving DecidableEq

/-- A block reads the same in two states. -/
def Block.same (s t : State) : Block → Prop
  | .pending => t.pending = s.pending
  | .supply => t.supply = s.supply
  | .pins => t.pins = s.pins
  | .timebase => t.timebase = s.timebase
  | .capture => t.capture = s.capture
  | .accum => t.accum = s.accum
  | .sched => t.sched = s.sched
  | .store => t.store = s.store
  | .array => t.array = s.array
  | .engine => t.engine = s.engine
  | .config => t.config = s.config
  | .service => t.service = s.service
  | .power => t.power = s.power
  | .notices => t.notices = s.notices
  | .link => t.link = s.link
  | .scan => t.scan = s.scan
  | .free => t.free = s.free

/-- Two states differ in the blocks `bs` at most. -/
structure Changes (bs : List Block) (s t : State) : Prop where
  same : ∀ b, b ∉ bs → b.same s t

/-! ## The laws of the part -/

/-- Law 1: the link's queues, jobs and credits (R160, R164, R166). -/
structure LinkLaw (s : State) : Prop where
  requests : s.link.requests.length ≤ 4
  jobs : s.link.jobs.length ≤ 2
  slots : (s.link.jobs.map HostJob.slot).Nodup
  credits : s.link.credits = s.link.requests.length + s.link.jobs.length + s.link.replies.length
  limit : s.link.credits ≤ 6
  sending : s.link.transmitting = true → s.link.replies ≠ []

/-- Law 4 and the other saturating counts (R10, R21, R146, R159); the lost-edge counts a commit job and the commit map hold
are among them, since a start takes them back (R12). -/
structure CountLaw (s : State) : Prop where
  pending : ∀ c, (s.capture.channels.get c).pending ≤ 255
  lost : ∀ c, (s.capture.channels.get c).lost ≤ 65535
  committed : ∀ c, (s.store.map.get c).lost ≤ 65535
  snapshot : ∀ j, s.commitJob = some j → j.snapshot.lost ≤ 65535
  delta : ∀ c, (s.accum.accounts.get c).delta ≤ 2 ^ 48 - 1
  notices : ∀ k, (s.notices.records.get k).count ≤ 255
  discarded : s.link.discarded ≤ 65535

/-- Law 5: at most one entry for a channel, so at most eight, and only the five queue causes (R36, R37). -/
structure QueueLaw (s : State) : Prop where
  single : (s.sched.queue.map QueueEntry.channel).Nodup
  length : s.sched.queue.length ≤ 8
  causes : ∀ e ∈ s.sched.queue, e.cause ≠ .flush ∧ e.cause ≠ .compact

/-- Law 10: the staged configuration differs from the live one only while the session is OPEN (R103). -/
def StagedLaw (s : State) : Prop := s.service.session = .closed → s.config.staged = s.config.live

/-- Law 12 and what else is confined to RUN: counting, pending counts, the commit queue, requests and host jobs, an OPEN
session (R13, R38, R116, R158, R167). -/
structure RunLaw (s : State) : Prop where
  live : s.capture.state = .live ↔ s.power.device = .run
  pending : s.power.device ≠ .run → ∀ c, (s.capture.channels.get c).pending = 0
  queue : s.power.device ≠ .run → s.sched.queue = []
  requests : s.power.device ≠ .run → s.link.requests = []
  jobs : s.power.device ≠ .run → s.link.jobs = []
  session : s.service.session ≠ .closed → s.power.device = .run

/-- How the power monitor's items go together (R113, R118, R119, R127, R129, R132, R133): a part without supply or with its
RESET line active stands at the entry into START with no operation; START's reads belong to START; the reply wait belongs to a
FLUSH that owes a restart; PFAIL is inactive in RUN; the resume timer runs exactly in RETAIN with PFAIL inactive; an OPEN
session has SVC active. -/
structure PowerLaw (s : State) : Prop where
  held : s.alive = false → s.power.device = .start ∧ s.store.op = none
  scanning : ∀ op, s.store.op = some op → op.task = .scanRead → s.power.device = .start
  replyWait : s.power.replyWait = true → s.power.device = .flush ∧ s.power.restartOwed = true
  running : s.power.device = .run → s.power.pfailFiltered = false
  resume : s.power.resume.isSome = true ↔ s.power.device = .retain ∧ s.power.pfailFiltered = false
  session : s.service.session ≠ .closed → s.power.device = .run ∧ s.service.svcFiltered = true

/-- The notice table: a record is pending exactly when its count is not 0, and clear otherwise; POWER is never masked
(R146, R148). -/
structure NoticeLaw (s : State) : Prop where
  pending : ∀ k, (s.notices.records.get k).pending = true ↔ 1 ≤ (s.notices.records.get k).count
  clear : ∀ k, (s.notices.records.get k).pending = false → s.notices.records.get k = NoticeRecord.clear
  mask : s.notices.mask.getLsbD 0 = false

/-- The memory keeps its canonical form. -/
def ArrayLaw (s : State) : Prop := Memory.wf s.array = true

/-! ## The entry into START (R132) -/

/-- What stands at the entry into START with a cause, whatever stood before (R30, R112, R118, R119, R132, R154, R168). -/
structure StartEntered (t : State) (cause : StartCause) : Prop where
  device : t.power.device = .start
  cause : t.power.startCause = cause
  owed : t.power.restartOwed = false
  replyWait : t.power.replyWait = false
  resume : t.power.resume = none
  pfail : t.power.pfailFiltered = t.power.pfailSync ∧ t.power.pfailRun = 0
  frozen : t.capture.state = .frozen
  counts : ∀ c, (t.capture.channels.get c).run = 0 ∧ (t.capture.channels.get c).pending = 0 ∧
    (t.capture.channels.get c).lost = 0
  totals : ∀ c, t.accum.accounts.get c = { buckets := PerTariff.all 0, delta := 0, version := 0 }
  tsel : t.accum.tsel.filtered = State.tselValue t.accum.tsel ∧ t.accum.tsel.candidate = State.tselValue t.accum.tsel ∧
    t.accum.tsel.run = 0
  sched : t.sched = { queue := [], headWaiting := false, interval := 0, flushList := [] }
  store : t.store.holder = none ∧ t.store.exhausted = false
  engine : t.engine = { phase := .idle, retryWait := false }
  session : t.service.session = .closed
  svc : t.service.svcFiltered = t.service.svcSync ∧ t.service.svcRun = 0
  notices : ∀ k, t.notices.records.get k = { pending := false, count := 0, detail := .empty }
  armed : t.notices.armed = true ∧ t.notices.mask = 0
  queues : t.link.requests = [] ∧ t.link.jobs = [] ∧ t.link.replies = []
  idle : t.link.transmitting = false ∧ t.link.credits = 0 ∧ t.link.discarded = 0
  receiver : t.link.receiver = .hunt ∧ t.link.gap = none

/-- START's first read is in progress: slot 0 of config sector A (R133, R134). -/
def FirstRead (t : State) : Prop :=
  t.scan.step = .config 0 ∧ t.scan.configBytes = [] ∧
    t.store.op =
      some { task := .scanRead, sector := .config .a, slot := 0, offset := 0, bytes := [], aborting := false }

/-! ## The array (R57, R59, R60, R61) -/

/-- An address stands in an operation's bytes: those a program writes. -/
def Operation.covers (op : Operation) (a : Nat) : Prop := op.address ≤ a ∧ a < op.address + op.bytes.length

/-- An address stands in a sector. -/
def Sector.covers (k : Sector) (a : Nat) : Prop := k.toNat * 1024 ≤ a ∧ a < k.toNat * 1024 + 1024

/-- No bit of `m` that was 0 is 1 in `m'`, at any address (R57, R61). -/
def OnlyClears (m m' : Memory) : Prop := ∀ a, Memory.read m' a &&& Memory.read m a = Memory.read m' a

/-- What a tear of the operation in progress spares (R61): everything outside the bytes it concerns; for a read everything;
for a program, every bit that was 0. -/
def Torn (op : Option Operation) (m m' : Memory) : Prop :=
  match op with
  | none => m' = m
  | some op =>
    match op.task with
    | .scanRead | .copyRead | .slotRead => m' = m
    | .ringErase | .configErase => ∀ a, ¬ op.sector.covers a → Memory.read m' a = Memory.read m a
    | .recordProgram | .confirmProgram | .epochProgram | .retireProgram | .countProgram | .imageProgram =>
      (∀ a, ¬ op.covers a → Memory.read m' a = Memory.read m a) ∧ OnlyClears m m'

/-- The program operation a command ends, and its outcome (R58). -/
def endsProgram : Instr → Option (Task × ProgramOutcome)
  | .recordProgramEnd o => some (.recordProgram, o)
  | .confirmProgramEnd o => some (.confirmProgram, o)
  | .epochProgramEnd o => some (.epochProgram, o)
  | .retireProgramEnd o => some (.retireProgram, o)
  | .countProgramEnd o => some (.countProgram, o)
  | .imageProgramEnd o => some (.imageProgram, o)
  | _ => none

/-- The erase a command ends, and its outcome (R58). -/
def endsErase : Instr → Option (Task × EraseOutcome)
  | .eraseEnd o => some (.ringErase, o)
  | .configEraseEnd o => some (.configErase, o)
  | _ => none

/-- The commands in which bytes of the array can change: the ends of programs and erases, and those that can tear one
(R57, R61). -/
def writesArray (c : Instr) : Prop :=
  (endsProgram c).isSome = true ∨ (endsErase c).isSome = true ∨ c = .resetLineActive ∨ c = .supplyLoss ∨
    ∃ p, c = .powerOn p

/-! ## Executions of requests (R162, R163, R165) -/

/-- A request of a KIND, TAG and payload is the one the executor takes next, with `rest` behind it (R162). -/
structure AtHead (s : State) (kind tag : Byte) (payload : List Byte) (rest : List Request) : Prop where
  run : s.power.device = .run
  head : s.link.requests = { kind := kind, tag := tag, payload := payload } :: rest

/-- The head has been taken and answered, and nothing else has changed: its reply stands at the tail of the reply queue, with
KIND's bit 7 set and its TAG, and the transmitter is sending (R163, R165, R166). -/
def State.answered (s : State) (rest : List Request) (kind tag : Byte) (status : Status) (payload : List Byte) : State :=
  { s with
    link :=
      { s.link with
        requests := rest
        replies := s.link.replies ++ [{ kind := kind ||| 0x80, tag := tag, status := status.code, payload := payload }]
        transmitting := true } }

/-- The head has been taken and has become a host job: it stands last in the host job table, in the entry `w`
(R163, R164). -/
def State.accepted (s : State) (rest : List Request) (w : JobSlot) (tag : Byte) (j : JobState) : State :=
  { s with
    link := { s.link with requests := rest, jobs := s.link.jobs ++ [{ slot := w, tag := tag, state := j }] } }

/-- A command executes a request of a kind: its own row, or a TICK with such a request at the queue head (R162). -/
def executes (s : State) (k : RequestKind) (c : Instr) : Prop :=
  (∃ t p, c.request? = some (k.code, t, p)) ∨
    (c = .tick ∧ ∃ r rest, s.link.requests = r :: rest ∧ r.kind = k.code)

/-- Both entries of the host job table hold a job (R163). -/
def State.jobsFull (s : State) : Prop :=
  (∃ j ∈ s.link.jobs, j.slot = .first) ∧ ∃ j ∈ s.link.jobs, j.slot = .second

/-- An entry of the host job table is the one a new job takes: the first that is free (R163; log 20: DESIGN CHOICE). -/
def State.freeJob (s : State) (w : JobSlot) : Prop :=
  (∀ j ∈ s.link.jobs, j.slot ≠ w) ∧ (w = .second → ∃ j ∈ s.link.jobs, j.slot = .first)

/-! ## A tick at one channel (R5, R7, R8) -/

/-- A channel's filter takes the synchronised level at this tick (R5). -/
def State.tickTakes (s : State) (c : Channel) : Prop :=
  (s.config.live.channels.get c).filter ≠ 0 ∧ (s.capture.channels.get c).sync ≠ (s.capture.channels.get c).filtered ∧
    (s.capture.channels.get c).run + 1 = (s.config.live.channels.get c).filter

/-- What the tick does to a channel's filter (R5, R6). -/
structure TickFilters (s : State) (c : Channel) (k : CaptureChannel) : Prop where
  sync : k.sync = (s.capture.channels.get c).sync
  taken : s.tickTakes c → k.filtered = (s.capture.channels.get c).sync ∧ k.run = 0
  kept : ¬ s.tickTakes c → k.filtered = (s.capture.channels.get c).filtered
  equal : (s.config.live.channels.get c).filter ≠ 0 →
    (s.capture.channels.get c).sync = (s.capture.channels.get c).filtered → k.run = 0
  counting : (s.config.live.channels.get c).filter ≠ 0 →
    (s.capture.channels.get c).sync ≠ (s.capture.channels.get c).filtered → ¬ s.tickTakes c →
    k.run = (s.capture.channels.get c).run + 1

/-- The level an EDGE channel's counted change ends at and a TIME channel counts at (R3). -/
def countedLevel (p : Polarity) : Level :=
  match p with
  | .rising => .high
  | .falling => .low

/-- The tick adds a count at a channel whose filtered level after the tick's filter update is `f` (R7, R8). -/
def State.tickCounts (s : State) (c : Channel) (f : Level) : Prop :=
  match (s.config.live.channels.get c).mode with
  | .off => False
  | .edge => s.tickTakes c ∧ f = countedLevel (s.config.live.channels.get c).polarity
  | .time => f = countedLevel (s.config.live.channels.get c).polarity

/-! ## Characters on RXD (R156, R190) -/

/-- The bytes of a request frame (R190). -/
def requestFrameBytes (kind tag : Byte) (payload : List Byte) : List Byte :=
  let covered := BitVec.ofNat 8 (payload.length + 2) :: kind :: tag :: payload
  0xC3 :: (covered ++ crcBytes covered)

/-- Characters without framing errors received one after another. -/
def receive (bs : List Byte) (s : State) : State :=
  bs.foldl
    (fun s b =>
      match exec (.characterReceived b false) s with
      | .next t => t
      | _ => s)
    s

end Sys2Proof.Machine
end

