-- ==== Sys2Proof/Certificates/Slice0/Obligations.lean ====
section
/-! DEFINITION. The statements about the model that are to be proved. -/

open Sys2Proof Sys2Proof.Machine

/-! ## The machine as a whole -/

/-- A step runs the command at the front of the queue with the queue's rest, and idles on an empty queue. The queue and the
idling are the model's (log 5). -/
def Obligations.StepRunsTheFrontCommand : Prop :=
  ∀ (c : Instr) (rest : List Instr) (s : State),
    step { s with pending := c :: rest } = exec c { s with pending := rest } ∧
    step { s with pending := [] } = .next { s with pending := [] }

/-- Every command is answered with a next state in every state, in one happening, and exec leaves the queue of commands alone. The
queue is the model's (log 5), and so is that a command naming a happening the state cannot have is answered with the same state
(log 4). What each command's effect is, the statements below say. -/
def Obligations.EveryCommandCompletesAndKeepsTheQueue : Prop :=
  ∀ (c : Instr) (s : State), ∃ t, exec c s = .next t ∧ t.pending = s.pending

/-- Every step keeps the array's canonical form, whatever it programs, erases or tears. -/
def Obligations.StepKeepsTheArrayForm : Prop :=
  ∀ s t : State, ArrayLaw s → step s = .next t → ArrayLaw t

/-- Law 1: every step keeps the limits of the link: 4 requests, 2 jobs in distinct entries, credits in use equal to the
requests, jobs and replies held and at most 6, and a transmitter that sends only a reply there is (R160, R164, R166).
Law 5: every step keeps the commit queue at one entry for a channel, with the five queue causes (R36, R37). -/
def Obligations.StepKeepsTheQueuesWithinTheirLimits : Prop :=
  (∀ s t : State, LinkLaw s → step s = .next t → LinkLaw t) ∧
  (∀ s t : State, QueueLaw s → step s = .next t → QueueLaw t)

/-- Law 4: every step keeps the saturating counts within their maxima: the pending counts, the lost-edge counts (live, committed
and in a snapshot), the deltas, the notice counts and the discarded-frame count (R10, R21, R146, R159).
Every step keeps the notice table: pending exactly when counted, clear otherwise, POWER never masked (R146, R148). -/
def Obligations.StepKeepsCountsAndNoticesInRange : Prop :=
  (∀ s t : State, CountLaw s → step s = .next t → CountLaw t) ∧
  (∀ s t : State, NoticeLaw s → step s = .next t → NoticeLaw t)

/-- Law 10: every step keeps the staged configuration equal to the live one while the session is CLOSED (R103).
Law 12: every step confines counting, pending counts, the queues, host jobs and an OPEN session to RUN
(R13, R38, R167, R168). -/
def Obligations.StepKeepsCountingRequestsAndEditsConfined : Prop :=
  (∀ s t : State, StagedLaw s → step s = .next t → StagedLaw t) ∧
  (∀ s t : State, RunLaw s → step s = .next t → RunLaw t)

/-- Every step keeps the power monitor's items consistent with one another (R113, R118, R119, R127, R129, R132, R133). That a part
without supply stands in START with no operation is the model's choice (log 15). -/
def Obligations.StepKeepsThePowerMonitorConsistent : Prop := ∀ s t : State, PowerLaw s → step s = .next t → PowerLaw t

/-- The state after reset meets every invariant above, and stands at the entry into START with its first read in progress. That
the state after reset is a power-on with its first read begun is the model's choice (log 1). -/
def Obligations.ResetMeetsTheInvariants : Prop :=
  ArrayLaw State.reset ∧ LinkLaw State.reset ∧ CountLaw State.reset ∧ QueueLaw State.reset ∧ StagedLaw State.reset ∧
    RunLaw State.reset ∧ PowerLaw State.reset ∧ NoticeLaw State.reset ∧ StartEntered State.reset .powerOn ∧
    FirstRead State.reset

/-- Law 9: the live configuration, its generation and the live sector change only at the end of CONFIG_SCAN's last read, at the
PASS of the slot 0 program of the APPLY job at work, and where working memory is lost with the supply (R102, R106, R110; log 3,
log 15 for its contents then). -/
def Obligations.LiveConfigurationChangesOnlyAtScanAndApply : Prop :=
  ∀ (c : Instr) (s t : State), exec c s = .next t →
    t.config.live ≠ s.config.live ∨ t.config.generation ≠ s.config.generation ∨ t.config.liveSector ≠ s.config.liveSector →
    (c = .scanReadEnd ∧ ∃ n, 7 ≤ n ∧ s.scan.step = .config n) ∨
      (c = .imageProgramEnd .pass ∧ ∃ j image p, s.arrayJob? = some j ∧ j.state = .apply image (some p) ∧
        p.step = .program 0) ∨
      c = .supplyLoss ∨ ∃ p, c = .powerOn p

/-- R149: the armed flag is disarmed only by a FETCH_NOTICE, and armed only by an ACK_NOTICE or a start; the mask changes only by
a SET_NOTICE_MASK or a start (R148). A TICK in which the executor takes such a request counts as the request. -/
def Obligations.ArmedFlagAndMaskChangeOnlyByTheirRequests : Prop :=
  ∀ (c : Instr) (s t : State), exec c s = .next t →
    (s.notices.armed = true → t.notices.armed = false → executes s .fetchNotice c) ∧
    (s.notices.armed = false → t.notices.armed = true → executes s .ackNotice c ∨ t.power.device = .start) ∧
    (t.notices.mask ≠ s.notices.mask → executes s .setNoticeMask c ∨ t.power.device = .start)

/-- R94: while the part runs, a ring sector's erase count changes only at the end of a COUNT program of that sector, and then
by 1. START's scan, which sets the counts, is excluded by the device state. -/
def Obligations.EraseCountsGrowOnlyAtCountEnds : Prop :=
  ∀ (c : Instr) (s t : State) (r : RingSector), PowerLaw s → exec c s = .next t →
    s.power.device ≠ .start → t.power.device ≠ .start →
    (t.store.table.get r).eraseCount ≠ (s.store.table.get r).eraseCount →
    (∃ o, c = .countProgramEnd o) ∧ s.engine.phase = .count r ∧
      (t.store.table.get r).eraseCount = (s.store.table.get r).eraseCount + 1

/-! ## The array -/

/-- Only the ends of programs and erases, and the commands that can tear one, change a byte of the array: reads, requests,
characters, pins and ticks change none (R57, R59, R61). -/
def Obligations.ArrayChangesOnlyAtWritingEndsAndTears : Prop :=
  ∀ (c : Instr) (s t : State), exec c s = .next t → ¬ writesArray c → t.array = s.array

/-- The end of a program changes its own bytes only and turns no 0 into a 1; on PASS each of its bytes is what stood there with
the programmed byte's zeros cleared, which is the programmed byte where the byte was erased (R57, R59; log 21 for a byte that
was not erased, log 23 for the confirm mark, which is no byte of a record program).
The end of an erase changes its own sector only, and on PASS every byte of it reads FFh (R57, R59, R60). An end whose ABORTED
does not agree with FLUSH entry's abort is no happening of the part, and nothing changes (log 4). -/
def Obligations.ProgramAndEraseEndsActOnTheirOwnBytes : Prop :=
  (∀ (c : Instr) (s t : State) (op : Operation) (o : ProgramOutcome), ArrayLaw s → s.store.op = some op →
    endsProgram c = some (op.task, o) → exec c s = .next t →
    (∀ a, ¬ op.covers a → Memory.read t.array a = Memory.read s.array a) ∧ OnlyClears s.array t.array ∧
    (o = .pass → ∀ (i : Nat) (h : i < op.bytes.length),
      Memory.read t.array (op.address + i) = Memory.read s.array (op.address + i) &&& op.bytes[i] ∧
      (Memory.read s.array (op.address + i) = 0xFF → Memory.read t.array (op.address + i) = op.bytes[i]))) ∧
  (∀ (c : Instr) (s t : State) (op : Operation) (o : EraseOutcome), s.store.op = some op →
    endsErase c = some (op.task, o) → exec c s = .next t →
    ((o = .aborted ↔ op.aborting = true) →
      (∀ a, ¬ op.sector.covers a → Memory.read t.array a = Memory.read s.array a) ∧
      (o = .pass → ∀ a, op.sector.covers a → Memory.read t.array a = 0xFF)) ∧
    (¬ (o = .aborted ↔ op.aborting = true) → t = s))

/-! ## Layouts -/

/-- A total record's bytes read back as the record once the confirm mark is 00h, and as no record under any other mark
(R70, R71, R191). -/
def Obligations.RecordsReadBackOnceConfirmed : Prop :=
  ∀ (r : RecordContent) (q : Nat), r.lost < 2 ^ 16 → q < 2 ^ 32 →
    (recordBytes r q).length = 31 ∧
    parseRecord (recordBytes r q ++ [0]) = some { content := r, sequence := q } ∧
    ∀ b : Byte, b ≠ 0 → parseRecord (recordBytes r q ++ [b]) = none

/-- A configuration image's four slots, 32 bytes each, read back as the configuration and its generation, for every
configuration with its settings in range and every generation from 1 to 200,000 (R100, R104, R192). -/
def Obligations.ImagesReadBack : Prop :=
  ∀ (c : Configuration) (g : Nat), 1 ≤ g → g ≤ 200000 →
    (∀ ch, (c.channels.get ch).filter ≤ 15 ∧ 1 ≤ (c.channels.get ch).weight ∧ (c.channels.get ch).weight ≤ 65535 ∧
      (c.channels.get ch).threshold ≤ 4294967295) →
    c.globals.commitInterval ≤ 3600 → 10 ≤ c.globals.idleTimeout → c.globals.idleTimeout ≤ 600 →
    parseImage
        (imageSlotBytes c g 0 ++ imageSlotBytes c g 1 ++ imageSlotBytes c g 2 ++ imageSlotBytes c g 3) =
      some { config := c, generation := g } ∧
    ∀ k, k < 4 → (imageSlotBytes c g k).length = 32

/-- The erase-count and epoch fields of a header: a programmed field reads valid with its value, an erased one unwritten, and one
whose check does not match broken, wherever the field stands (R62, R189). -/
def Obligations.HeaderFieldsReadByTheirCheck : Prop :=
  ∀ (n v : Nat) (xs ys : List Byte), 1 ≤ n → v < 256 ^ n →
    readField (xs ++ fieldBytes n v ++ ys) xs.length n = .valid v ∧
    readField (xs ++ List.replicate (n + 1) 0xFF ++ ys) xs.length n = .unwritten ∧
    ∀ b : Byte, b ≠ fieldCheck (leBytes n v) → (b = 0xFF → v + 1 ≠ 256 ^ n) →
      readField (xs ++ leBytes n v ++ [b] ++ ys) xs.length n = .broken

/-! ## Shared operations the commands are made of -/

/-- A drain takes the whole pending count to the active tariff's bucket, weighted and modulo 2^40, and to the delta up to its
maximum; it advances the live version if the count was not 0 and raises ROLLOVER exactly if the bucket wraps; nothing else
changes (R11, R17 to R22). -/
def Obligations.DrainMovesThePendingCountToTheActiveBucket : Prop :=
  ∀ (s : State) (c : Channel),
    let k := s.capture.channels.get c
    let a := s.accum.accounts.get c
    let u := k.pending * (s.config.live.channels.get c).weight
    let b := (a.buckets.get s.accum.tariff).toNat
    let t := s.drainCounts c
    let a' := t.accum.accounts.get c
    t.capture.state = s.capture.state ∧ t.capture.channels.get c = { k with pending := 0 } ∧
    (∀ d, d ≠ c → t.capture.channels.get d = s.capture.channels.get d ∧
      t.accum.accounts.get d = s.accum.accounts.get d) ∧
    t.accum.tariff = s.accum.tariff ∧ t.accum.tsel = s.accum.tsel ∧
    (a'.buckets.get s.accum.tariff).toNat = (b + u) % 2 ^ 40 ∧
    (∀ x, x ≠ s.accum.tariff → a'.buckets.get x = a.buckets.get x) ∧
    a'.delta = min (2 ^ 48 - 1) (a.delta + u) ∧
    a'.version = (if k.pending = 0 then a.version else a.version + 1) ∧
    (b + u < 2 ^ 40 → t.notices = s.notices) ∧
    (2 ^ 40 ≤ b + u →
      t.notices = (s.raise .rollover (.rollover (channelBit c) (tariffBit s.accum.tariff))).notices) ∧
    Changes [.capture, .accum, .notices] s t

/-- A raise sets its kind's record pending, counts up to 255 and merges the detail by the kind's rule; no other record, the mask
and the armed flag change; ATTN becomes active exactly if the unit is armed and the kind is POWER or unmasked
(R146, R147, R150). -/
def Obligations.RaisesCountAndMerge : Prop :=
  ∀ (s : State) (k : NoticeKind) (d : NoticeDetail),
    let r := s.notices.records.get k
    let r' := (s.raise k d).notices.records.get k
    r'.pending = true ∧ r'.count = min 255 (r.count + 1) ∧
    ((k = .power ∨ k = .config) → r'.detail = d) ∧
    (k = .storeFault → r'.detail = if r.detail = .empty then d else r.detail) ∧
    ((k = .service ∨ k = .link) → ∀ x y, d = .reasons y →
      (r.detail = .empty → r'.detail = d) ∧ (r.detail = .reasons x → r'.detail = .reasons (x ||| y))) ∧
    (k = .lostEdges → ∀ x y, d = .channels y →
      (r.detail = .empty → r'.detail = d) ∧ (r.detail = .channels x → r'.detail = .channels (x ||| y))) ∧
    (k = .rollover → ∀ x y p q, d = .rollover y q →
      (r.detail = .empty → r'.detail = d) ∧
        (r.detail = .rollover x p → r'.detail = .rollover (x ||| y) (p ||| q))) ∧
    (∀ j, j ≠ k → (s.raise k d).notices.records.get j = s.notices.records.get j) ∧
    (s.raise k d).notices.mask = s.notices.mask ∧ (s.raise k d).notices.armed = s.notices.armed ∧
    Changes [.notices] s (s.raise k d) ∧
    (s.raise k d).attn = (s.attn || (s.notices.armed && (k == .power || !s.notices.mask.getLsbD k.number)))

/-- A cause reaching the scheduler merges into the channel's entry, which keeps its place and takes the higher-ranked cause and
the waiter at the end of its list, or makes an entry at the tail (R36, R38).
While the store is EXHAUSTED a cause's entry is resolved in the happening that makes it: the queue is empty after it, no head
waits, and nothing but the queue and the waiters' jobs and replies changes (R51). -/
def Obligations.CausesMergeJoinTheTailOrAreResolved : Prop :=
  ([Cause.flush, .load, .request, .tariff, .threshold, .interval].map Cause.rank = [1, 2, 3, 4, 5, 6] ∧
  ∀ (s : State) (c : Channel) (k : Cause) (w : Option JobSlot), s.store.exhausted = false →
    (∀ xs e ys, s.sched.queue = xs ++ e :: ys → e.channel = c → (∀ x ∈ xs, x.channel ≠ c) →
      s.deliverCause c k w =
        { s with
          sched :=
            { s.sched with
              queue := xs ++
                { channel := c, cause := if k.rank < e.cause.rank then k else e.cause, waiters := e.waiters ++ w.toList } ::
                  ys } }) ∧
    ((∀ e ∈ s.sched.queue, e.channel ≠ c) →
      s.deliverCause c k w =
        { s with
          sched := { s.sched with queue := s.sched.queue ++ [{ channel := c, cause := k, waiters := w.toList }] } })) ∧
  (∀ (s : State) (c : Channel) (k : Cause) (w : Option JobSlot), s.store.exhausted = true →
    let t := s.deliverCause c k w
    t.sched = { s.sched with queue := [], headWaiting := false } ∧ Changes [.sched, .link] s t ∧
    (s.sched.queue = [] → ∀ v, w = some v →
      t.link = (State.tell { s with sched := { s.sched with queue := [], headWaiting := false } } c .exhausted v).link))

/-- A COMMIT_WAIT job told a channel's outcome drops the channel from its remaining mask and keeps the first failure; with no
channel left it ends with OK or that failure's status. A LOAD_WAIT job ends with the outcome's status, on success with the place
of the channel's designated record. A job that ends leaves its entry of the table free and its reply at the tail of the reply
queue (R52, R53, R164, R186). -/
def Obligations.WaitersAreToldTheOutcome : Prop :=
  ∀ (s : State) (w : JobSlot) (j : HostJob) (c : Channel) (o : Resolution), LinkLaw s → s.job? w = some j →
    let ended (status : Byte) (kind : Byte) (payload : List Byte) : State :=
      State.startTransmitter
        { s with
          link :=
            { s.link with
              jobs := s.link.jobs.filter (fun x => x.slot ≠ w)
              replies := s.link.replies ++ [{ kind := kind, tag := j.tag, status := status, payload := payload }] } }
    (∀ m f, j.state = .commitWait m f →
      let f' := match f, o with
        | some x, _ => some x
        | none, .storeFailed => some CommitFailure.storeFailed
        | none, .exhausted => some CommitFailure.storeExhausted
        | none, _ => none
      (maskWithout m c ≠ 0 →
        s.tell c o w =
          { s with
            link :=
              { s.link with
                jobs := s.link.jobs.map (fun x =>
                  if x.slot = w then { x with state := .commitWait (maskWithout m c) f' } else x) } }) ∧
      (maskWithout m c = 0 →
        s.tell c o w =
          match f' with
          | none => ended 0x00 0x91 []
          | some .storeFailed => ended 0x07 0x91 []
          | some .storeExhausted => ended 0x08 0x91 [])) ∧
    (∀ x, j.state = .loadWait x →
      (o = .storeFailed → s.tell c o w = ended 0x07 0xA7 []) ∧
      (o = .exhausted → s.tell c o w = ended 0x08 0xA7 []) ∧
      (∀ d, o = .succeeded → (s.store.map.get c).designated = some d →
        s.tell c o w =
          ended 0x00 0xA7
            ([BitVec.ofNat 8 d.location.sector.toNat, BitVec.ofNat 8 d.location.slot] ++ leBytes 4 d.sequence)))

/-- A tariff switch to the active tariff changes nothing. To another, every channel is drained into the old tariff's bucket, the
new tariff is active, and, with commit-on-tariff set and a store not EXHAUSTED, every channel then dirty has an entry, with
cause TARIFF unless its entry before the switch held LOAD or REQUEST, which it then keeps; a channel then clean is not queued but
by the threshold step. With commit-on-tariff clear the switch queues no channel but by the threshold step (R23, R28). -/
def Obligations.TariffSwitchDrainsThenQueues : Prop :=
  ∀ (s : State) (x : Tariff),
    (x = s.accum.tariff → s.tariffSwitch x = s) ∧
    (x ≠ s.accum.tariff →
      let t := s.tariffSwitch x
      t.accum.tariff = x ∧ t.accum.tsel = s.accum.tsel ∧
      (∀ c, t.accum.accounts.get c = (s.drainCounts c).accum.accounts.get c ∧
        t.capture.channels.get c = { s.capture.channels.get c with pending := 0 }) ∧
      (QueueLaw s → s.store.exhausted = false → s.config.live.globals.commitOnTariff = true → ∀ c, t.dirty c = true →
        ∃ e ∈ t.sched.queue, e.channel = c ∧
          (∀ d ∈ s.sched.queue, d.channel = c → d.cause = .load ∨ d.cause = .request → e.cause = d.cause) ∧
          ((∀ d ∈ s.sched.queue, d.channel = c → d.cause ≠ .load ∧ d.cause ≠ .request) → e.cause = .tariff)) ∧
      (s.store.exhausted = false → s.config.live.globals.commitOnTariff = true → ∀ c, t.dirty c = false →
        ∀ e ∈ t.sched.queue, e.channel = c → e ∈ s.sched.queue ∨ (e.cause = .threshold ∧ s.queued c = false)) ∧
      (s.config.live.globals.commitOnTariff = false →
        ∀ e ∈ t.sched.queue, e ∈ s.sched.queue ∨ (e.cause = .threshold ∧ s.queued e.channel = false)) ∧
      Changes [.capture, .accum, .notices, .sched, .link] s t)

/-- The arbiter: nothing while the array is in use, in START and in RETAIN; in RUN first an urgent compaction step, then the next
step of the oldest array host job, then the commit-queue head, which waits with fewer than 17 record slots free and is otherwise
taken as CommitHeadStartsWithASnapshot says; then a normal compaction step; a store that is EXHAUSTED takes host jobs only. An
APPLY's first step fixes its target, the config sector that is not live, A if none is, and its generation, the next one, and begins
the target's erase; at the limit of 200,000 the job ends with STORE_EXHAUSTED and the arbiter chooses again; each later step
programs its slot (R69, R77 to R80, R84, R86, R108, R109; log 27 for a head that waits with 17 slots free, log 28 for when the flag
is set). -/
def Obligations.ArbiterChoosesByRank : Prop :=
  ∀ s : State,
    let begun (op : Operation) : State := { s with store := { s.store with op := some op } }
    let config (k : ConfigSector) : Sector := .config k
    ((s.store.op ≠ none ∨ s.store.holder ≠ none ∨ s.power.device = .start ∨ s.power.device = .retain) → s.arbiter = s) ∧
    (s.power.device = .run → s.store.op = none → s.store.holder = none →
      (s.engineReady = true → (s.erasedSectors ≤ 1 ∨ s.sched.headWaiting = true) → s.arbiter = s.engineStep) ∧
      ((s.engineReady = false ∨ (2 ≤ s.erasedSectors ∧ s.sched.headWaiting = false)) →
        (∀ j k n, s.arrayJob? = some j → j.state = .readSlot k n →
          s.arbiter =
            begun { task := .slotRead, sector := k, slot := n, offset := 0, bytes := [], aborting := false }) ∧
        (∀ j image, LinkLaw s → s.arrayJob? = some j → j.state = .apply image none →
          (∀ target, (s.config.liveSector = some .a → target = .b) → (s.config.liveSector ≠ some .a → target = .a) →
            s.config.generation < 200000 →
            s.arbiter =
              { begun { task := .configErase, sector := config target, slot := 0, offset := 0, bytes := [], aborting := false } with
                link :=
                  { s.link with
                    jobs := s.link.jobs.map (fun x =>
                      if x.slot = j.slot then
                        { x with
                          state := .apply image
                            (some { target := target, generation := s.config.generation + 1, step := .erase }) }
                      else x) } }) ∧
          (200000 ≤ s.config.generation →
            s.arbiter =
              State.arbiter
                (State.startTransmitter
                  { s with
                    link :=
                      { s.link with
                        jobs := s.link.jobs.filter (fun x => x.slot ≠ j.slot)
                        replies := s.link.replies ++
                          [{ kind := 0xA5, tag := j.tag, status := 0x08, payload := [] }] } }))) ∧
        (∀ j image p k, LinkLaw s → s.arrayJob? = some j → j.state = .apply image (some p) → p.step = .program k →
          s.arbiter =
            begun
              { task := .imageProgram, sector := config p.target, slot := k, offset := 0
                bytes := imageSlotBytes image p.generation k, aborting := false }) ∧
        (s.arrayJob? = none → s.store.exhausted = false → s.sched.queue = [] →
          s.arbiter = if s.engineReady then s.engineStep else s) ∧
        (s.arrayJob? = none → s.store.exhausted = false → s.sched.queue ≠ [] → s.freeSlots < 17 →
          s.arbiter =
            if s.engineReady then State.engineStep { s with sched := { s.sched with headWaiting := true } }
            else { s with sched := { s.sched with headWaiting := true } })) ∧
      (s.store.exhausted = true → s.arrayJob? = none → s.arbiter = s))

/-- A commit-queue head that the arbiter takes, with 17 record slots free, no array host job and no urgent compaction step: its
channel is drained without the threshold step; if it is then dirty, the commit job begins with its snapshot in the OPEN sector's
next slot with the next sequence, and the job holds the array, before a normal compaction step; if it is clean, and was the only
entry, it is skipped and a normal compaction step follows if there is one (R25, R47, R67, R70, R72, R73, R77). -/
def Obligations.CommitHeadStartsWithASnapshot : Prop :=
  ∀ (s : State) (e : QueueEntry) (q : List QueueEntry),
    s.power.device = .run → s.store.op = none → s.store.holder = none → s.store.exhausted = false →
    s.arrayJob? = none → (s.engineReady = false ∨ (2 ≤ s.erasedSectors ∧ s.sched.headWaiting = false)) →
    s.sched.queue = e :: q → 17 ≤ s.freeSlots →
    let d := State.drainCounts { s with sched := { s.sched with queue := q, headWaiting := false } } e.channel
    let snap : Snapshot :=
      { buckets := (d.accum.accounts.get e.channel).buckets, lost := (s.capture.channels.get e.channel).lost
        version := (d.accum.accounts.get e.channel).version, delta := (d.accum.accounts.get e.channel).delta
        tariff := s.accum.tariff }
    (d.dirty e.channel = true → ∀ r ep n, s.openSector? = some r → (s.store.table.get r).state = .opened ep n → n < 32 →
      s.arbiter =
        { d with
          store :=
            { d.store with
              op := some
                { task := .recordProgram, sector := .ring r, slot := n, offset := 0, aborting := false
                  bytes := recordBytes
                    { channel := e.channel, cause := e.cause, tariff := s.accum.tariff, buckets := snap.buckets
                      lost := snap.lost }
                    s.store.nextSequence }
              holder := some
                { job := .commit { channel := e.channel, snapshot := snap, cause := e.cause, waiters := e.waiters }
                  attempts := 0, place := some { sector := r, slot := n }, sequence := s.store.nextSequence
                  fault := none }
              table := s.store.table.set r { s.store.table.get r with state := .opened ep (n + 1) }
              nextSequence := s.store.nextSequence + 1 } }) ∧
    (d.dirty e.channel = false → q = [] → e.waiters = [] → s.arbiter = if s.engineReady then d.engineStep else d)

/-- The compaction engine's steps. IDLE: the lowest-numbered SPOILED or RETIRING sector is erased, else the FILLED sector of the
lowest epoch becomes the target and its channels are examined from CH0. COPY: the first channel from the copy position on whose
map record lies in the target is read for its copy, and with none left MARK begins. MARK, ERASE and COUNT begin their operation
(R85, R87, R88, R90, R91, R93). -/
def Obligations.CompactionStepsFollowThePhase : Prop :=
  ∀ (s : State) (t : RingSector),
    let begun (p : Phase) (op : Operation) : State :=
      { s with engine := { s.engine with phase := p }, store := { s.store with op := some op } }
    let examined (position : Nat) (u : State) : Prop :=
      ((∀ (c : Channel) (d : Designation), position ≤ c.toNat → (s.store.map.get c).designated = some d → d.location.sector ≠ t) →
        u = begun (.mark t)
          { task := .retireProgram, sector := .ring t, slot := 0, offset := 9, bytes := [0], aborting := false }) ∧
      (∀ (c : Channel) (d : Designation), position ≤ c.toNat → (s.store.map.get c).designated = some d → d.location.sector = t →
        (∀ (b : Channel) (d : Designation), position ≤ b.toNat → b.toNat < c.toNat → (s.store.map.get b).designated = some d →
          d.location.sector ≠ t) →
        u =
          { s with
            engine := { s.engine with phase := .copy t c.toNat }
            store :=
              { s.store with
                holder := some
                  { job := .reading c t, attempts := 0, place := none, sequence := 0, fault := none }
                op := some
                  { task := .copyRead, sector := .ring t, slot := d.location.slot, offset := 0, bytes := []
                    aborting := false } } })
    (s.engine.phase = .idle → (s.store.table.get t).state.owesErase = true →
      (∀ r : RingSector, r.toNat < t.toNat → (s.store.table.get r).state.owesErase = false) →
      s.engineStep = begun (.erase t 0)
        { task := .ringErase, sector := .ring t, slot := 0, offset := 0, bytes := [], aborting := false }) ∧
    (∀ e, s.engine.phase = .idle → (∀ r, (s.store.table.get r).state.owesErase = false) →
      (s.store.table.get t).state = .filled e → (∀ r e', r ≠ t → (s.store.table.get r).state = .filled e' → e < e') →
      examined 0 s.engineStep) ∧
    (∀ p, s.engine.phase = .copy t p → examined p s.engineStep) ∧
    (s.engine.phase = .mark t →
      s.engineStep = begun (.mark t)
        { task := .retireProgram, sector := .ring t, slot := 0, offset := 9, bytes := [0], aborting := false }) ∧
    (∀ n, s.engine.phase = .erase t n →
      s.engineStep = begun (.erase t n)
        { task := .ringErase, sector := .ring t, slot := 0, offset := 0, bytes := [], aborting := false }) ∧
    (s.engine.phase = .count t →
      s.engineStep = begun (.count t)
        { task := .countProgram, sector := .ring t, slot := 0, offset := 0
          bytes := fieldBytes 3 ((s.store.table.get t).eraseCount + 1), aborting := false })

/-- An attempt of a job: below its minimum of free record slots the job fails; else it takes the OPEN sector's next slot and the
next sequence; with the OPEN sector full, or none, the full one becomes FILLED and the ERASED sector of the lowest erase count,
the lowest number among equals, gets the next epoch programmed; with no ERASED sector the job fails
(R65, R67, R68, R69, R72, R73, R74). -/
def Obligations.AttemptsTakeTheNextSlotOrOpenAHead : Prop :=
  ∀ (s : State) (h : Hold) (content : RecordContent), h.job.content = some content →
    let enough := (match h.job with
      | .commit j => if j.cause = .flush then 1 else 17
      | _ => 1) ≤ s.freeSlots
    (¬ enough → s.nextAttempt h = s.jobFails h) ∧
    (enough → ∀ r ep n, s.openSector? = some r → (s.store.table.get r).state = .opened ep n → n < 32 →
      s.nextAttempt h =
        { s with
          store :=
            { s.store with
              op := some
                { task := .recordProgram, sector := .ring r, slot := n, offset := 0
                  bytes := recordBytes content s.store.nextSequence, aborting := false }
              holder := some { h with place := some { sector := r, slot := n }, sequence := s.store.nextSequence }
              table := s.store.table.set r { s.store.table.get r with state := .opened ep (n + 1) }
              nextSequence := s.store.nextSequence + 1 } }) ∧
    (enough → ∀ filled : PerRing SectorEntry,
      ((s.openSector? = none ∧ filled = s.store.table) ∨
        ∃ r ep n, s.openSector? = some r ∧ (s.store.table.get r).state = .opened ep n ∧ 32 ≤ n ∧
          filled = s.store.table.set r { s.store.table.get r with state := .filled ep }) →
      (∀ k, (filled.get k).state = .erased →
        (∀ q, q ≠ k → (filled.get q).state = .erased → (filled.get k).eraseCount < (filled.get q).eraseCount ∨
          ((filled.get k).eraseCount = (filled.get q).eraseCount ∧ k.toNat < q.toNat)) →
        s.nextAttempt h =
          { s with
            store :=
              { s.store with
                op := some
                  { task := .epochProgram, sector := .ring k, slot := 0, offset := 4
                    bytes := fieldBytes 4 (s.store.highestEpoch + 1), aborting := false }
                holder := some { h with place := none }
                table := filled
                highestEpoch := s.store.highestEpoch + 1 } }) ∧
      ((∀ k, (filled.get k).state ≠ .erased) →
        s.nextAttempt h = State.jobFails { s with store := { s.store with table := filled } } h))

/-- A job that fails releases the array and raises STORE_FAULT with the sector of its last operation that ended FAIL. A commit
job's waiters are told STORE_FAILED, a flush commit's channel joins the not-written mask, and the map, the versions and the
deltas stay; a copy leaves its target, the engine is IDLE with the retry wait set (R50, R74, R89, R124). -/
def Obligations.FailedJobsRaiseStoreFault : Prop :=
  ∀ (s : State) (h : Hold),
    (∀ j r, h.job = .commit j → h.fault = some r →
      let u := State.tellAll
        (State.raise { s with store := { s.store with holder := none } } .storeFault (.sector r.toNat))
        j.channel .storeFailed j.waiters
      (j.cause ≠ .flush → s.jobFails h = u) ∧
      (j.cause = .flush →
        s.jobFails h = { u with power := { u.power with notWritten := u.power.notWritten ||| channelBit j.channel } })) ∧
    (∀ j, h.job = .copy j →
      s.jobFails h =
        { State.raise { s with store := { s.store with holder := none } } .storeFault
            (.sector (match h.fault with
              | some r => r.toNat
              | none => j.target.toNat)) with
          engine := { phase := .idle, retryWait := true } })

/-! ## Supply and RESET line -/

/-- POWER_ON of a part without supply and with its RESET line inactive: START is entered with cause POWER_ON, the timebase is
cleared, the synchronised levels are the pins' (SVC and PFAIL active when low), the line rate is the straps', the first read
begins, and the array keeps its contents (R1, R4, R132, R133, R155, R193). That a channel's filtered level is then its first
sample is log 16. With the RESET line active the part is held at the entry into START with cause RESET_LINE, and a POWER_ON of a
part with supply is a SUPPLY_LOSS and then the POWER_ON (log 14).
SUPPLY_LOSS: the part stops, the operation in progress is torn, the array keeps every other byte, a torn record program's confirm
mark among them (log 23), and until the supply comes up neither ticks, characters nor ends of operations change anything
(R57, R61, R130, R194; log 4, log 15). -/
def Obligations.SupplyComesUpAndIsLost : Prop :=
  (∀ (p : PinLevels) (s : State), s.supply.powered = false → s.supply.resetLine = false → s.store.op = none →
    ∃ t, exec (.powerOn p) s = .next t ∧ StartEntered t .powerOn ∧ FirstRead t ∧
      t.supply = { powered := true, resetLine := false } ∧ t.timebase = { divider := 0, second := 0 } ∧
      t.pins = { baud1 := p.baud1, baud0 := p.baud0 } ∧
      (∀ c, (t.capture.channels.get c).sync = p.channels.get c ∧ (t.capture.channels.get c).filtered = p.channels.get c) ∧
      t.accum.tsel.line1 = p.tsel1 ∧ t.accum.tsel.line0 = p.tsel0 ∧
      (t.service.svcSync = true ↔ p.svc = .low) ∧ (t.power.pfailSync = true ↔ p.pfail = .low) ∧
      t.link.lineRate =
        (match p.baud1, p.baud0 with
          | .low, .low => .r9600
          | .low, .high => .r38400
          | .high, .low => .r115200
          | .high, .high => .r460800) ∧
      t.array = s.array ∧ t.pending = s.pending ∧ t.free = s.free) ∧
  (∀ (p : PinLevels) (s : State), s.supply.powered = false → s.supply.resetLine = true → s.store.op = none →
    ∃ t, exec (.powerOn p) s = .next t ∧ StartEntered t .resetLine ∧ t.store.op = none ∧ t.alive = false ∧
      t.supply = { powered := true, resetLine := true } ∧
      (∀ c, (t.capture.channels.get c).sync = p.channels.get c) ∧ t.array = s.array ∧ t.pending = s.pending) ∧
  (∀ (p : PinLevels) (s : State), s.supply.powered = true →
    ∃ u, exec .supplyLoss s = .next u ∧ exec (.powerOn p) s = exec (.powerOn p) u) ∧
  (∀ s : State, ArrayLaw s → s.supply.powered = true →
    ∃ t, exec .supplyLoss s = .next t ∧ t.supply = { s.supply with powered := false } ∧ t.store.op = none ∧
      t.power.device = .start ∧ Torn s.store.op s.array t.array ∧ t.pins = s.pins ∧ t.pending = s.pending ∧
      exec .tick t = .next t ∧ (∀ b f, exec (.characterReceived b f) t = .next t) ∧
      ∀ c, (endsProgram c).isSome = true ∨ (endsErase c).isSome = true ∨ c = .scanReadEnd ∨ c = .copyReadEnd ∨ c = .slotReadEnd →
        exec c t = .next t)

/-- RESET_LINE_ACTIVE of a part with supply, in any device state: the operation in progress is torn, START is entered with cause
RESET_LINE and held there with no operation, the timebase is cleared; the pins' levels, the channels' filtered levels and the
straps' rate stay (R1, R61, R98, R132; log 16 for the filtered levels, log 23 for the confirm mark of a torn record program).
RESET_RELEASE: the filters of TSEL, SVC and PFAIL take the present line levels, the straps are read and START's first read
begins; nothing else changes (R30, R112, R118, R132, R133, R155). -/
def Obligations.ResetLineHoldsThePartAndReleaseBegins : Prop :=
  (∀ s : State, ArrayLaw s → s.supply.powered = true → s.supply.resetLine = false →
    ∃ t, exec .resetLineActive s = .next t ∧ StartEntered t .resetLine ∧ t.store.op = none ∧ t.alive = false ∧
      Torn s.store.op s.array t.array ∧ t.timebase = { divider := 0, second := 0 } ∧
      t.supply = { powered := true, resetLine := true } ∧
      (∀ c, (t.capture.channels.get c).sync = (s.capture.channels.get c).sync ∧
        (t.capture.channels.get c).filtered = (s.capture.channels.get c).filtered) ∧
      t.accum.tsel.line1 = s.accum.tsel.line1 ∧ t.accum.tsel.line0 = s.accum.tsel.line0 ∧
      t.service.svcSync = s.service.svcSync ∧ t.power.pfailSync = s.power.pfailSync ∧
      t.pins = s.pins ∧ t.link.lineRate = s.link.lineRate ∧ t.pending = s.pending) ∧
  (∀ s : State, s.supply.powered = true → s.supply.resetLine = true →
    exec .resetRelease s = .next
      { s with
        supply := { powered := true, resetLine := false }
        accum :=
          { s.accum with
            tsel :=
              { s.accum.tsel with
                filtered := State.tselValue s.accum.tsel, candidate := State.tselValue s.accum.tsel, run := 0 } }
        service := { s.service with svcFiltered := s.service.svcSync, svcRun := 0 }
        power := { s.power with pfailFiltered := s.power.pfailSync, pfailRun := 0 }
        link := { s.link with lineRate := State.strapRate s.pins }
        store :=
          { s.store with
            op := some
              { task := .scanRead, sector := .config .a, slot := 0, offset := 0, bytes := [], aborting := false } } })

/-! ## Time -/

/-- In RUN a tick, the array in use or idle, moves each channel's counts, with the count the tick itself makes, to the active
tariff's bucket: the filter is updated, a qualified edge or an active millisecond adds one, an addition at 255 is lost and counted, the drain round
takes everything, and the delta and the live version follow (R5, R7, R8, R10, R11, R19 to R22, R24). That the tick's own count
lands in the tick's own round is the model's order (log 7). A commit that the arbiter then starts finds nothing pending. Left out
are a tick with a request waiting, which may be one that changes counts or tariff, and one at which a tariff select change is
due. -/
def Obligations.TickMovesCountsToTheActiveBucket : Prop :=
  ∀ (s : State) (c : Channel), s.alive = true → s.power.device = .run → s.capture.state = .live →
    s.link.requests = [] → s.tselDue = false → (s.capture.channels.get c).pending ≤ 255 →
    ∃ t, exec .tick s = .next t ∧
      let k := s.capture.channels.get c
      let k' := t.capture.channels.get c
      let a := s.accum.accounts.get c
      let a' := t.accum.accounts.get c
      TickFilters s c k' ∧ k'.pending = 0 ∧ t.accum.tariff = s.accum.tariff ∧
      (∀ moved : Nat,
        ((s.tickCounts c k'.filtered ∧ k.pending < 255 ∧ moved = k.pending + 1) ∨
          ((¬ s.tickCounts c k'.filtered ∨ k.pending = 255) ∧ moved = k.pending)) →
        let u := moved * (s.config.live.channels.get c).weight
        (a'.buckets.get s.accum.tariff).toNat = ((a.buckets.get s.accum.tariff).toNat + u) % 2 ^ 40 ∧
        (∀ x, x ≠ s.accum.tariff → a'.buckets.get x = a.buckets.get x) ∧
        a'.delta = min (2 ^ 48 - 1) (a.delta + u) ∧
        a'.version = if moved = 0 then a.version else a.version + 1) ∧
      (s.tickCounts c k'.filtered → k.pending = 255 → k'.lost = min 65535 (k.lost + 1)) ∧
      (¬ (s.tickCounts c k'.filtered ∧ k.pending = 255) → k'.lost = k.lost)

/-- A tick runs the tick timers and filters in every device state: the second counter, the SVC filter, the tariff select filter,
the gap timer, and in RETAIN the resume timer (R1, R2, R30, R112, R129, R157). A tick of FLUSH with the array idle, and the tick
that ends RETAIN, are left out.
A TICK in RUN takes the request-queue head: the request leaves the queue in the happening of the tick (R162, R163). -/
def Obligations.TickRunsTheTickTimersAndTheExecutor : Prop :=
  (∀ s : State, s.alive = true → (s.power.device ≠ .flush ∨ s.store.op ≠ none) → s.resumeDue = false →
    ∃ t, exec .tick s = .next t ∧ t.power.device = s.power.device ∧
      t.timebase.second = (if s.timebase.second + 1 = 1000 then 0 else s.timebase.second + 1) ∧
      (s.service.svcSync = s.service.svcFiltered → t.service.svcFiltered = s.service.svcFiltered ∧ t.service.svcRun = 0) ∧
      (s.service.svcSync ≠ s.service.svcFiltered → s.service.svcRun + 1 ≠ 20 →
        t.service.svcFiltered = s.service.svcFiltered ∧ t.service.svcRun = s.service.svcRun + 1) ∧
      (s.service.svcSync ≠ s.service.svcFiltered → s.service.svcRun + 1 = 20 →
        t.service.svcFiltered = s.service.svcSync ∧ t.service.svcRun = 0) ∧
      (let f := s.accum.tsel
        let v := State.tselValue f
        (v = f.filtered → t.accum.tsel = { f with run := 0 }) ∧
        (v ≠ f.filtered → v = f.candidate → f.run + 1 ≠ 20 → t.accum.tsel = { f with run := f.run + 1 }) ∧
        (v ≠ f.filtered → v ≠ f.candidate → t.accum.tsel = { f with candidate := v, run := 1 }) ∧
        (v ≠ f.filtered → v = f.candidate → f.run + 1 = 20 → t.accum.tsel = { f with filtered := v, run := 0 })) ∧
      (s.link.gap = none → t.link.gap = none) ∧
      (∀ n, s.link.gap = some n → n + 1 < 5 → t.link.gap = some (n + 1)) ∧
      (∀ n, s.link.gap = some n → 5 ≤ n + 1 → t.link.gap = none ∧ t.link.receiver = .hunt) ∧
      (∀ n, s.power.device = .retain → s.power.resume = some n → t.power.resume = some (n + 1))) ∧
  (∀ (s : State) (r : Request) (rest : List Request), s.alive = true → s.power.device = .run → s.link.requests = r :: rest →
    ∃ t, exec .tick s = .next t ∧ t.link.requests = rest)

/-- SECOND_EVENT at the 1,000th tick: the second counter starts again, the retry wait is cleared, the interval timer counts if it
runs, or expires if it is due, the idle timer counts while the session is OPEN, or closes the session with TIMEOUT if it is due,
and the arbiter then chooses. At any other tick there is no second event (R1, R2, R41, R42, R89, R114, R116; log 6).
The interval timer's expiry: every dirty channel without an entry joins the tail with cause INTERVAL, in ascending order, the
entries there keep their causes, and the interval timer's count returns to 0; while the store is EXHAUSTED the queue, empty before,
stays empty (R38, R41, R51). INTERVAL_TIMER_EXPIRY is the second event in which it happens, and at any other second event or tick it
changes nothing (log 4, log 6). -/
def Obligations.SecondEventAndIntervalExpiry : Prop :=
  ∀ s : State, s.alive = true →
    let runs := s.power.device = .run ∧ 1 ≤ s.config.live.globals.commitInterval
    let due := runs ∧ s.config.live.globals.commitInterval ≤ s.sched.interval + 1
    let happens (c : Instr) (sched : Scheduler) : Prop :=
      let counted (x : Session) : State :=
        { s with
          timebase := { s.timebase with second := 0 }
          engine := { s.engine with retryWait := false }
          sched := sched
          service := { s.service with session := x } }
      (s.service.session = .closed → exec c s = .next (State.arbiter (counted .closed))) ∧
      ∀ n, s.service.session = .opened n →
        (n + 1 < s.config.live.globals.idleTimeout → exec c s = .next (State.arbiter (counted (.opened (n + 1))))) ∧
        (s.config.live.globals.idleTimeout ≤ n + 1 →
          exec c s = .next
            (State.arbiter
              (State.raise { counted .closed with config := { s.config with staged := s.config.live } } .service
                (.reasons 2))))
    (s.timebase.second = 999 → ¬ due →
      (runs → happens .secondEvent { s.sched with interval := s.sched.interval + 1 }) ∧
      (¬ runs → happens .secondEvent s.sched)) ∧
    (s.timebase.second = 999 → due → QueueLaw s →
      (s.store.exhausted = false →
        happens .intervalTimerExpiry
          { s.sched with
            interval := 0
            queue := s.sched.queue ++
              (Channel.all.filter (fun c => s.dirty c && !s.queued c)).map (fun c =>
                { channel := c, cause := .interval, waiters := [] }) }) ∧
      (s.store.exhausted = true → s.sched.queue = [] → s.sched.headWaiting = false →
        happens .intervalTimerExpiry { s.sched with interval := 0 })) ∧
    (s.timebase.second = 999 → due → exec .intervalTimerExpiry s = exec .secondEvent s) ∧
    (s.timebase.second ≠ 999 → exec .secondEvent s = .next s ∧ exec .intervalTimerExpiry s = .next s) ∧
    (¬ due → exec .intervalTimerExpiry s = .next s)

/-- IDLE_TIMER_EXPIRY is the second event that completes the idle timeout: the session closes, the staged configuration is set
equal to the live one, and SERVICE is raised with reason TIMEOUT (R114, R116). It is the same happening as the SECOND_EVENT
(log 6), whose next state is given here with the interval timer not due, and where that is due too by
SecondEventAndIntervalExpiry; the arbiter then chooses. At any other second event or tick it changes nothing (log 4).
SVC_FILTERED_CHANGE: at the tick that completes the run of 20 the filtered level takes the line's level; to inactive, an OPEN
session closes, its edits are dropped, and SERVICE is raised with reason LINE (R103, R112, R116). -/
def Obligations.SessionClosesByTimeoutOrLine : Prop :=
  (∀ s : State, s.alive = true →
    (∀ n, s.timebase.second = 999 → s.service.session = .opened n → s.config.live.globals.idleTimeout ≤ n + 1 →
      (s.intervalDue = false →
        exec .idleTimerExpiry s = .next
          (State.arbiter
            (State.raise
              { s with
                timebase := { s.timebase with second := 0 }
                engine := { s.engine with retryWait := false }
                sched :=
                  { s.sched with
                    interval :=
                      if s.power.device = .run ∧ 1 ≤ s.config.live.globals.commitInterval then s.sched.interval + 1
                      else s.sched.interval }
                service := { s.service with session := .closed }
                config := { s.config with staged := s.config.live } }
              .service (.reasons 2)))) ∧
      exec .idleTimerExpiry s = exec .secondEvent s) ∧
    ((s.timebase.second ≠ 999 ∨ s.service.session = .closed ∨
        ∃ n, s.service.session = .opened n ∧ n + 1 < s.config.live.globals.idleTimeout) →
      exec .idleTimerExpiry s = .next s)) ∧
  (∀ s : State, s.alive = true → s.service.svcSync ≠ s.service.svcFiltered → s.service.svcRun + 1 = 20 →
    (s.service.svcSync = true →
      exec .svcFilteredChange s = .next { s with service := { s.service with svcFiltered := true, svcRun := 0 } }) ∧
    (s.service.svcSync = false → s.service.session = .closed →
      exec .svcFilteredChange s = .next { s with service := { s.service with svcFiltered := false, svcRun := 0 } }) ∧
    (∀ n, s.service.svcSync = false → s.service.session = .opened n →
      exec .svcFilteredChange s = .next
        (State.raise
          { s with
            service := { s.service with svcFiltered := false, svcRun := 0, session := .closed }
            config := { s.config with staged := s.config.live } }
          .service (.reasons 1))))

/-- RESUME_TIMER_EXPIRY: at the tenth tick of PFAIL inactivity RETAIN ends. With a restart owed START is entered with cause
RESTART and an unbroken timebase; without, the part returns to RUN: POWER is raised with RESUMED, capture is LIVE with its
filters re-initialised, the transmitter goes on, the tariff follows the lines under LINES, and the arbiter chooses
(R14, R31, R126, R129). -/
def Obligations.ResumeExpiryEndsRetain : Prop :=
  ∀ (s : State) (n : Nat), s.alive = true → s.power.device = .retain → s.power.resume = some n → 10 ≤ n + 1 →
    (s.power.restartOwed = true →
      ∃ t, exec .resumeTimerExpiry s = .next t ∧ StartEntered t .restart ∧ FirstRead t ∧ t.timebase = s.timebase ∧
        t.array = s.array ∧ t.link.lineRate = State.strapRate s.pins) ∧
    (s.power.restartOwed = false → s.config.live.globals.tariffSource = .host ∨ s.accum.tsel.filtered = s.accum.tariff →
      exec .resumeTimerExpiry s = .next
        (State.arbiter
          (State.raise
            { s with
              power := { s.power with device := .run, resume := none }
              capture :=
                { state := .live
                  channels := PerChannel.ofFn (fun c =>
                    { s.capture.channels.get c with filtered := (s.capture.channels.get c).sync, run := 0 }) }
              link := { s.link with transmitting := s.link.transmitting || !s.link.replies.isEmpty } }
            .power (.power .resumed)))) ∧
    (s.power.restartOwed = false → s.config.live.globals.tariffSource = .lines →
      ∃ t, exec .resumeTimerExpiry s = .next t ∧ t.power.device = .run ∧ t.accum.tariff = s.accum.tsel.filtered ∧
        t.capture.state = .live)

/-! ## Inputs -/

/-- SYNCHRONISED_LEVEL_CHANGE of a channel: the synchronised level takes the level. On a LIVE capture unit with filter 0 the
filtered level follows at once, and in EDGE mode a change in the configured direction adds a count; an addition at 255 is lost,
counted up to 65,535 and raised as LOST_EDGES. Nothing else changes (R4, R6, R7, R9, R10, R13).
FILTERED_LEVEL_CHANGE: at the tick that completes a channel's filter run the filtered level takes the synchronised level and
the run returns to 0; in EDGE mode a change in the configured direction adds a count, or loses it at 255 (R5, R7, R10, R13). -/
def Obligations.ChannelLevelChangesCountAnEdge : Prop :=
  (∀ (s : State) (c : Channel) (l : Level), s.supply.powered = true →
    let k := s.capture.channels.get c
    let g := s.config.live.channels.get c
    let put (k' : CaptureChannel) : State := { s with capture := { s.capture with channels := s.capture.channels.set c k' } }
    let follows := s.capture.state = .live ∧ g.filter = 0 ∧ k.filtered ≠ l
    let counts := g.mode = .edge ∧ l = countedLevel g.polarity
    let out := exec (.synchronisedLevelChange (.channel c) l) s
    (k.sync = l → out = .next s) ∧
    (k.sync ≠ l → ¬ follows → out = .next (put { k with sync := l })) ∧
    (k.sync ≠ l → follows → ¬ counts → out = .next (put { k with sync := l, filtered := l, run := 0 })) ∧
    (k.sync ≠ l → follows → counts → k.pending < 255 →
      out = .next (put { k with sync := l, filtered := l, run := 0, pending := k.pending + 1 })) ∧
    (k.sync ≠ l → follows → counts → 255 ≤ k.pending →
      out = .next
        (State.raise (put { k with sync := l, filtered := l, run := 0, lost := min 65535 (k.lost + 1) }) .lostEdges
          (.channels (channelBit c))))) ∧
  (∀ (s : State) (c : Channel), s.alive = true → s.capture.state = .live → s.tickTakes c →
    let k := s.capture.channels.get c
    let g := s.config.live.channels.get c
    let put (k' : CaptureChannel) : State := { s with capture := { s.capture with channels := s.capture.channels.set c k' } }
    let counts := g.mode = .edge ∧ k.sync = countedLevel g.polarity
    let out := exec (.filteredLevelChange c) s
    (¬ counts → out = .next (put { k with filtered := k.sync, run := 0 })) ∧
    (counts → k.pending < 255 → out = .next (put { k with filtered := k.sync, run := 0, pending := k.pending + 1 })) ∧
    (counts → 255 ≤ k.pending →
      out = .next
        (State.raise (put { k with filtered := k.sync, run := 0, lost := min 65535 (k.lost + 1) }) .lostEdges
          (.channels (channelBit c)))))

/-- SYNCHRONISED_LEVEL_CHANGE of another line or of a strap changes that level and nothing else; SVC and PFAIL are active when
low (R4, R30, R112, R118, R193). That the straps change through this command is the model's (log 13).
PFAIL's filtered changes outside RUN: to active they change the filtered level, and in RETAIN stop the resume timer; to
inactive they change the filtered level, and in RETAIN start the resume timer at 0 (R118, R125, R129); the line's synchronised
level and the filter's run follow with the filtered level (log 12). -/
def Obligations.OtherLineAndPfailChanges : Prop :=
  (∀ (s : State) (l : Level), s.supply.powered = true →
    exec (.synchronisedLevelChange .tsel0 l) s =
      .next { s with accum := { s.accum with tsel := { s.accum.tsel with line0 := l } } } ∧
    exec (.synchronisedLevelChange .tsel1 l) s =
      .next { s with accum := { s.accum with tsel := { s.accum.tsel with line1 := l } } } ∧
    exec (.synchronisedLevelChange .svc l) s = .next { s with service := { s.service with svcSync := l == .low } } ∧
    exec (.synchronisedLevelChange .pfail l) s = .next { s with power := { s.power with pfailSync := l == .low } } ∧
    exec (.synchronisedLevelChange .baud0 l) s = .next { s with pins := { s.pins with baud0 := l } } ∧
    exec (.synchronisedLevelChange .baud1 l) s = .next { s with pins := { s.pins with baud1 := l } }) ∧
  (∀ s : State, s.supply.powered = true →
    (s.power.pfailFiltered = false → (s.power.device = .start ∨ s.power.device = .flush) →
      exec .pfailActive s = .next
        { s with power := { s.power with pfailSync := true, pfailFiltered := true, pfailRun := 0 } }) ∧
    (s.power.pfailFiltered = false → s.power.device = .retain →
      exec .pfailActive s = .next
        { s with power := { s.power with pfailSync := true, pfailFiltered := true, pfailRun := 0, resume := none } }) ∧
    (s.power.pfailFiltered = true → (s.power.device = .start ∨ s.power.device = .flush) →
      exec .pfailInactive s = .next
        { s with power := { s.power with pfailSync := false, pfailFiltered := false, pfailRun := 0 } }) ∧
    (s.power.pfailFiltered = true → s.power.device = .retain →
      exec .pfailInactive s = .next
        { s with power := { s.power with pfailSync := false, pfailFiltered := false, pfailRun := 0, resume := some 0 } }))

/-- TSEL_FILTERED_CHANGE: at the tick that completes the run of 20 the filtered value takes the candidate; under LINES in RUN that
is a tariff switch to it, before the arbiter chooses; otherwise nothing else changes while the array is in use (R30, R31). -/
def Obligations.TselFilteredChangeSwitchesUnderLines : Prop :=
  ∀ s : State, s.alive = true → State.tselValue s.accum.tsel ≠ s.accum.tsel.filtered →
    State.tselValue s.accum.tsel = s.accum.tsel.candidate → s.accum.tsel.run + 1 = 20 →
    let u : State := { s with accum := { s.accum with tsel := { s.accum.tsel with filtered := s.accum.tsel.candidate, run := 0 } } }
    (s.power.device = .run → s.config.live.globals.tariffSource = .lines →
      exec .tselFilteredChange s = .next (State.arbiter (u.tariffSwitch s.accum.tsel.candidate))) ∧
    ((s.power.device ≠ .run ∨ s.config.live.globals.tariffSource = .host) → s.store.op ≠ none →
      exec .tselFilteredChange s = .next u)

/-! ## FLUSH -/

/-- PFAIL_ACTIVE in RUN with an array operation in progress enters FLUSH in one happening: capture is FROZEN and then every channel
drained without the threshold step, the flush list is the channels dirty after the drain in ascending order, the commit queue
is emptied, the host jobs in acceptance order and then the requests in queue order are answered CANCELLED with their credits
kept, the session closes with SERVICE reason FLUSH, an erase is aborted and any other operation goes on, and compaction, the
interval timer and the live configuration stay (R13, R26, R42, R54, R60, R96, R116, R120, R122, R123, R167). That PFAIL's
synchronised level and run follow with its filtered level is log 12. -/
def Obligations.PfailActiveInRunEntersFlush : Prop :=
  ∀ (s : State) (op : Operation), s.supply.powered = true → s.power.device = .run → s.power.pfailFiltered = false →
    s.store.op = some op →
    ∃ t, exec .pfailActive s = .next t ∧
      t.power =
        { s.power with
          device := .flush, pfailSync := true, pfailFiltered := true, pfailRun := 0, resume := none, replyWait := false
          notWritten := 0 } ∧
      t.capture.state = .frozen ∧
      (∀ c, t.capture.channels.get c = { s.capture.channels.get c with pending := 0 } ∧
        t.accum.accounts.get c = (s.drainCounts c).accum.accounts.get c) ∧
      t.accum.tariff = s.accum.tariff ∧ t.accum.tsel = s.accum.tsel ∧
      t.sched =
        { queue := [], headWaiting := false, interval := s.sched.interval
          flushList := Channel.all.filter (fun c =>
            (t.accum.accounts.get c).version != (s.store.map.get c).version) } ∧
      t.store.op =
        some { op with aborting := if op.task = .ringErase ∨ op.task = .configErase then true else op.aborting } ∧
      t.store.table = s.store.table ∧ t.store.map = s.store.map ∧ t.store.nextSequence = s.store.nextSequence ∧
      (∀ h j, s.store.holder = some h → h.job = .commit j →
        t.store.holder = some { h with job := .commit { j with waiters := [] } }) ∧
      t.link.requests = [] ∧ t.link.jobs = [] ∧ t.link.credits = s.link.credits ∧
      t.link.replies =
        s.link.replies ++
          s.link.jobs.map (fun j =>
            { kind := match j.state with
                | .apply _ _ => 0xA5
                | .readSlot _ _ => 0x86
                | .commitWait _ _ => 0x91
                | .loadWait _ => 0xA7
              tag := j.tag, status := 0x09, payload := [] }) ++
          s.link.requests.map (fun r => { kind := r.kind ||| 0x80, tag := r.tag, status := 0x09, payload := [] }) ∧
      t.link.receiver = s.link.receiver ∧ t.link.gap = s.link.gap ∧
      t.service.session = .closed ∧ t.config.live = s.config.live ∧
      (s.service.session ≠ .closed → t.config.staged = s.config.live ∧
        ∃ r, t.notices.records.get .service = NoticeRecord.raised r .service (.reasons 4) ∧
          r = s.notices.records.get .service) ∧
      t.engine = s.engine ∧ t.array = s.array

/-- In FLUSH, when an operation ends and the array is free, the flush list's first channel is offered: dirty, it leaves the list
and its commit begins with cause FLUSH as soon as 1 record slot is free; with none free, or the store EXHAUSTED, every channel
still listed joins the not-written mask and FLUSH ends (R55, R69, R124).
FLUSH end, reached when the last operation before it ends with the flush list empty (here the read of a cancelled READ_SLOT):
POWER is raised with FLUSH_COMPLETE, or FLUSH_INCOMPLETE and the not-written mask, and the next state is RETAIN with PFAIL active,
the reply wait or at once START with a restart owed, and otherwise RUN, where capture is LIVE again
(R60, R121, R125, R126, R127, R128). -/
def Obligations.FlushListIsWrittenAndFlushEnds : Prop :=
  (∀ (s : State) (op : Operation) (c : Channel) (rest : List Channel), s.power.device = .flush → s.power.replyWait = false →
    s.store.op = some op → op.task = .slotRead → s.store.holder = none → s.link.jobs = [] → s.sched.flushList = c :: rest →
    (s.store.exhausted = false → 1 ≤ s.freeSlots → s.dirty c = true → (s.capture.channels.get c).pending = 0 →
      ∀ r ep n, s.openSector? = some r → (s.store.table.get r).state = .opened ep n → n < 32 →
      ∃ t, exec .slotReadEnd s = .next t ∧ t.power.device = .flush ∧ t.sched.flushList = rest ∧
        t.store.op = some
          { task := .recordProgram, sector := .ring r, slot := n, offset := 0, aborting := false
            bytes := recordBytes
              { channel := c, cause := .flush, tariff := s.accum.tariff, buckets := (s.accum.accounts.get c).buckets
                lost := (s.capture.channels.get c).lost }
              s.store.nextSequence } ∧
        (∃ h, t.store.holder = some h ∧ h.job.isFlush = true ∧ h.attempts = 0 ∧
          h.place = some { sector := r, slot := n } ∧ h.sequence = s.store.nextSequence) ∧
        t.store.nextSequence = s.store.nextSequence + 1 ∧ t.power.notWritten = s.power.notWritten) ∧
    ((s.store.exhausted = true ∨ s.freeSlots = 0) → s.power.pfailFiltered = true →
      ∃ t, exec .slotReadEnd s = .next t ∧ t.power.device = .retain ∧ t.sched.flushList = [] ∧
        t.notices.records.get .power =
          NoticeRecord.raised (s.notices.records.get .power) .power
            (.power
              (if s.power.notWritten ||| maskOf (c :: rest) = 0 then .flushComplete
                else .flushIncomplete (s.power.notWritten ||| maskOf (c :: rest)))) ∧
        t.power.notWritten = 0 ∧ t.store.map = s.store.map ∧ t.accum = s.accum)) ∧
  (∀ (s : State) (op : Operation), s.power.device = .flush → s.power.replyWait = false → s.store.op = some op →
    op.task = .slotRead → s.store.holder = none → s.link.jobs = [] → s.sched.flushList = [] →
    let u : State :=
      State.raise
        { s with
          store := { s.store with op := none }
          power := { s.power with notWritten := 0 } }
        .power (.power (if s.power.notWritten = 0 then .flushComplete else .flushIncomplete s.power.notWritten))
    (s.power.pfailFiltered = true → exec .slotReadEnd s = .next { u with power := { u.power with device := .retain } }) ∧
    (s.power.pfailFiltered = false → s.power.restartOwed = true → (s.link.replies ≠ [] ∨ s.link.transmitting = true) →
      exec .slotReadEnd s = .next { u with power := { u.power with replyWait := true } }) ∧
    (s.power.pfailFiltered = false → s.power.restartOwed = true → s.link.replies = [] → s.link.transmitting = false →
      ∃ t, exec .slotReadEnd s = .next t ∧ StartEntered t .restart ∧ FirstRead t ∧ t.timebase = s.timebase) ∧
    (s.power.pfailFiltered = false → s.power.restartOwed = false → RunLaw s →
      ∃ t, exec .slotReadEnd s = .next t ∧ t.power.device = .run ∧ t.power.notWritten = 0 ∧ t.capture.state = .live ∧
        (s.config.live.globals.tariffSource = .host ∨ s.accum.tsel.filtered = s.accum.tariff → t.notices = u.notices) ∧
        (s.config.live.globals.tariffSource = .lines → t.accum.tariff = s.accum.tsel.filtered) ∧
        ∀ c, (t.capture.channels.get c).filtered = (s.capture.channels.get c).sync ∧ (t.capture.channels.get c).run = 0))

/-! ## START -/

/-- SCAN_READ_END in CONFIG_SCAN: the slots of sector A and then of sector B are read in ascending order, and after the eighth the
newer valid image, sector A's among equals, or else the defaults, become the live and the staged configuration, and RING_SCAN
reads the header of sector 2 (R101, R102, R103, R106, R133, R134).
What a RESET or loss of supply leaves of an APPLY's operation in progress: a torn erase leaves no valid image in the target, and a
torn program of one of its slots leaves the completed program or an image whose CRC does not match, which is not valid
(R61, R104, R111; log 29). -/
def Obligations.ConfigScanChoosesTheNewestValidImage : Prop :=
  (∀ (s : State) (op : Operation) (n : Nat), s.store.op = some op → op.task = .scanRead → s.scan.step = .config n →
    let bytes := s.scan.configBytes ++ Memory.readBytes s.array (op.sector.toNat * 1024 + op.slot * 32) 32
    let reading (t : State) (k : Sector) (slot : Nat) : Prop :=
      t.store =
        { s.store with
          op := some { task := .scanRead, sector := k, slot := slot, offset := 0, bytes := [], aborting := false } }
    ∃ t, exec .scanReadEnd s = .next t ∧
      (n < 3 → t.scan = { s.scan with step := .config (n + 1), configBytes := bytes } ∧ reading t (.config .a) (n + 1) ∧
        Changes [.scan, .store] s t) ∧
      (3 ≤ n → n < 7 → t.scan = { s.scan with step := .config (n + 1), configBytes := bytes } ∧
        reading t (.config .b) (n - 3) ∧ Changes [.scan, .store] s t) ∧
      (7 ≤ n → t.scan = { s.scan with step := .header .s2, configBytes := bytes } ∧ reading t (.ring .s2) 0 ∧
        t.config.staged = t.config.live ∧ Changes [.scan, .store, .config] s t ∧
        (∀ x y, parseImage (slice bytes 0 128) = some x → parseImage (slice bytes 128 128) = some y →
          t.config.outcome = .bothValid ∧
          (y.generation ≤ x.generation →
            t.config.live = x.config ∧ t.config.generation = x.generation ∧ t.config.liveSector = some .a) ∧
          (x.generation < y.generation →
            t.config.live = y.config ∧ t.config.generation = y.generation ∧ t.config.liveSector = some .b)) ∧
        (∀ x, parseImage (slice bytes 0 128) = some x → parseImage (slice bytes 128 128) = none →
          t.config.outcome = .oneCopy ∧ t.config.live = x.config ∧ t.config.generation = x.generation ∧
          t.config.liveSector = some .a) ∧
        (∀ y, parseImage (slice bytes 0 128) = none → parseImage (slice bytes 128 128) = some y →
          t.config.outcome = .oneCopy ∧ t.config.live = y.config ∧ t.config.generation = y.generation ∧
          t.config.liveSector = some .b) ∧
        (parseImage (slice bytes 0 128) = none → parseImage (slice bytes 128 128) = none →
          t.config.outcome = .defaulted ∧ t.config.generation = 0 ∧ t.config.liveSector = none ∧
          t.config.live.globals =
            { commitInterval := 900, tariffSource := .host, commitOnTariff := true, idleTimeout := 120 } ∧
          ∀ c, t.config.live.channels.get c =
            { mode := .off, polarity := .rising, filter := 2, weight := 1, threshold := 0 }))) ∧
  (∀ (s t : State) (op : Operation) (k : ConfigSector), s.store.op = some op → op.sector = .config k → ArrayLaw s →
    ((exec .resetLineActive s = .next t ∧ s.supply.powered = true ∧ s.supply.resetLine = false) ∨
      (exec .supplyLoss s = .next t ∧ s.supply.powered = true)) →
    let image (m : Memory) : List Byte := Memory.readBytes m (op.sector.toNat * 1024) 128
    (op.task = .configErase → parseImage (image t.array) = none) ∧
    (op.task = .imageProgram →
      t.array = Memory.program s.array op.address op.bytes ∨
        (slice (image t.array) 126 2 ≠ crcBytes ((image t.array).take 126) ∧ parseImage (image t.array) = none)))

/-- SCAN_READ_END of a header in RING_SCAN's first pass, of a sector below 15: WORN by a count of 100,000 or more, else RETIRING by
its retire field, else SPOILED by a broken epoch, else in use by a valid one, and the next sector's header is read; with an
unwritten epoch the content test reads record slot 1. In the content test a slot that is not FFh throughout makes the sector
SPOILED, 31 that are make it ERASED (R62, R135, R136). A sector in use stands as FILLED until the second pass.
SCAN_READ_END at the end of the first pass, sector 15 being placed by its header or its content: every sector's erase count is its
field's, or the highest valid one of the other sectors but at most 99,999, and 0 if there is none; the highest epoch is the largest
read; with a sector in use, the one of the highest epoch, the lowest-numbered of equals, is read downward from slot 31 (R65, R137,
R138), and with none START completes in RUN. The first slot not FFh throughout fixes the next slot, 31 that are make it 1, and
REBUILD reads slot 1 of the lowest sector that has used slots, or START completes (R138, R139). PFAIL is inactive where START
completes.
A ring sector whose erase was torn, or aborted by FLUSH entry, is found SPOILED unless every byte of it reads FFh: its retire field
reads FFh, its count is not 100,000 or more, and its epoch is broken, or unwritten with a record slot not FFh throughout
(R98, R130; log 29). -/
def Obligations.RingScanClassifiesAndSettles : Prop :=
  (∀ (s : State) (op : Operation) (r q : RingSector), s.store.op = some op → op.task = .scanRead → q.toNat = r.toNat + 1 →
    let bytes := Memory.readBytes s.array (op.sector.toNat * 1024 + op.slot * 32) 32
    let worn := ∃ v, readField bytes 0 3 = .valid v ∧ 100000 ≤ v
    let retired := bytes[9]? ≠ some 0xFF
    let read (t : State) (x : ScanStep) (k : RingSector) (slot : Nat) : Prop :=
      t.scan.step = x ∧
        t.store.op = some
          { task := .scanRead, sector := .ring k, slot := slot, offset := 0, bytes := [], aborting := false } ∧
        Changes [.scan, .store] s t
    let placed (t : State) (x : SectorState) : Prop :=
      t.store.table = s.store.table.set r { s.store.table.get r with state := x } ∧ read t (.header q) q 0
    ∃ t, exec .scanReadEnd s = .next t ∧
      (s.scan.step = .header r →
        (worn → placed t .worn) ∧
        (¬ worn → retired → placed t .retiring) ∧
        (¬ worn → ¬ retired → readField bytes 4 4 = .broken → placed t .spoiled) ∧
        (∀ e, ¬ worn → ¬ retired → readField bytes 4 4 = .valid e → placed t (.filled e)) ∧
        (¬ worn → ¬ retired → readField bytes 4 4 = .unwritten →
          t.store.table = s.store.table ∧ read t (.content r 1) r 1) ∧
        t.scan.counts.get r = (match readField bytes 0 3 with
          | .valid v => some v
          | _ => none) ∧
        t.scan.highestEpoch = (match readField bytes 4 4 with
          | .valid e => max s.scan.highestEpoch e
          | _ => s.scan.highestEpoch)) ∧
      (∀ n, s.scan.step = .content r n →
        (allFF bytes = false → placed t .spoiled) ∧
        (allFF bytes = true → n < 31 → t.store.table = s.store.table ∧ read t (.content r (n + 1)) r (n + 1)) ∧
        (allFF bytes = true → 31 ≤ n → placed t .erased))) ∧
  (∀ (s : State) (op : Operation), s.store.op = some op → op.task = .scanRead →
    let bytes := Memory.readBytes s.array (op.sector.toNat * 1024 + op.slot * 32) 32
    let completes (t : State) (states : RingSector → SectorState) : Prop :=
      s.power.pfailFiltered = false → s.link.jobs = [] → s.sched.queue = [] → s.store.holder = none →
      t.scan.step = .done ∧ t.power.device = .run ∧ ∀ r, (t.store.table.get r).state = states r
    let reads (t : State) (x : ScanStep) (k : RingSector) (slot : Nat) : Prop :=
      t.scan.step = x ∧
        t.store.op = some { task := .scanRead, sector := .ring k, slot := slot, offset := 0, bytes := [], aborting := false }
    let rebuilds (t : State) (states : RingSector → SectorState) : Prop :=
      let used (r : RingSector) : Nat := match states r with
        | .opened _ n => n - 1
        | .filled _ => 31
        | _ => 0
      (∀ q : RingSector, 1 ≤ used q → (∀ r : RingSector, r.toNat < q.toNat → used r = 0) →
        reads t (.rebuild q 1) q 1 ∧ ∀ r, (t.store.table.get r).state = states r) ∧
      ((∀ q, used q = 0) → completes t states)
    (∀ (x : SectorState) (counts : PerRing (Option Nat)) (epoch : Nat),
      ((∃ n, s.scan.step = .content .s15 n ∧ counts = s.scan.counts ∧ epoch = s.scan.highestEpoch ∧
          ((allFF bytes = false ∧ x = .spoiled) ∨ (allFF bytes = true ∧ 31 ≤ n ∧ x = .erased))) ∨
        (s.scan.step = .header .s15 ∧ classifyHeader bytes = .settled x ∧
          counts = s.scan.counts.set .s15 (match readField bytes 0 3 with
            | .valid v => some v
            | _ => none) ∧
          epoch = (match readField bytes 4 4 with
            | .valid e => max s.scan.highestEpoch e
            | _ => s.scan.highestEpoch))) →
      let states (r : RingSector) : SectorState := if r = .s15 then x else (s.store.table.get r).state
      (∀ r, (states r).isInUse = true → ∃ e, states r = .filled e) →
      ∃ t, exec .scanReadEnd s = .next t ∧
        (∀ h e, states h = .filled e → (∀ r e', states r = .filled e' → e' < e ∨ (e' = e ∧ h.toNat ≤ r.toNat)) →
          reads t (.head h e 31) h 31 ∧ t.store.highestEpoch = epoch ∧ ∀ r, (t.store.table.get r).state = states r) ∧
        ((∀ r, (states r).isInUse = false) → completes t states ∧
          (s.power.pfailFiltered = false → s.link.jobs = [] → s.sched.queue = [] → s.store.holder = none →
            t.store.highestEpoch = epoch)) ∧
        (((∃ h e, states h = .filled e) ∨
            (s.power.pfailFiltered = false ∧ s.link.jobs = [] ∧ s.sched.queue = [] ∧ s.store.holder = none)) →
          ∀ r,
            (∀ v, counts.get r = some v → (t.store.table.get r).eraseCount = v) ∧
            (counts.get r = none →
              (∀ q m, q ≠ r → counts.get q = some m → (∀ p v, p ≠ r → counts.get p = some v → v ≤ m) →
                (t.store.table.get r).eraseCount = min 99999 m) ∧
              ((∀ q, q ≠ r → counts.get q = none) → (t.store.table.get r).eraseCount = 0)))) ∧
    (∀ h e n, s.scan.step = .head h e n → allFF bytes = true → 1 < n →
      ∃ t, exec .scanReadEnd s = .next t ∧ reads t (.head h e (n - 1)) h (n - 1)) ∧
    (∀ h e n next, s.scan.step = .head h e n →
      ((allFF bytes = true ∧ n ≤ 1 ∧ next = 1) ∨ (allFF bytes = false ∧ next = n + 1)) →
      ∃ t, exec .scanReadEnd s = .next t ∧
        rebuilds t (fun r => if r = h then .opened e next else (s.store.table.get r).state))) ∧
  (∀ (s t : State) (op : Operation) (r : RingSector), ArrayLaw s → s.store.op = some op → op.task = .ringErase →
    op.sector = .ring r →
    ((exec .resetLineActive s = .next t ∧ s.supply.powered = true ∧ s.supply.resetLine = false) ∨
      (exec .supplyLoss s = .next t ∧ s.supply.powered = true) ∨
      (exec (.eraseEnd .aborted) s = .next t ∧ op.aborting = true)) →
    let bytes := Memory.readBytes t.array (r.toNat * 1024) 1024
    (∀ b ∈ bytes, b = 0xFF) ∨
      (bytes[9]? = some 0xFF ∧ (∀ v, readField bytes 0 3 = .valid v → v < 100000) ∧
        (readField bytes 4 4 = .broken ∨ (readField bytes 4 4 = .unwritten ∧ ∃ b ∈ bytes.drop 32, b ≠ 0xFF))))

/-- SCAN_READ_END in REBUILD with more slots of the sector to read: a valid record is offered to its channel's map entry, which
takes it with its location if it has none or one of no higher sequence, and it is the newest of all unless one read before has
a higher sequence (log 19 for equal ones); a slot that holds no valid record changes nothing; and the next slot is read (R71,
R75, R139, R142). After a sector's last slot the next sector with slots to read follows (R139).
SCAN_READ_END of REBUILD's last read, its record offered in the same way: every channel starts clean from its map entry, the
next sequence follows the newest record's, the tariff is the lines' or the newest record's, the map-records counts and the
exhausted flag follow the table, the part enters RUN with capture LIVE and re-initialised and the receiver in HUNT (log 30),
and POWER, CONFIG and STORE_EXHAUSTED are raised as they apply (R12, R14, R140 to R145). PFAIL is inactive there. With PFAIL active
FLUSH is entered in the same happening and ends at once in RETAIN, with POWER's detail FLUSH_COMPLETE, the receiver left as it is and
the channels not counting (R120, R125, R144, R167). -/
def Obligations.RebuildTakesTheNewestAndEntersRun : Prop :=
  (∀ (s : State) (op : Operation) (r : RingSector) (n : Nat), s.store.op = some op → op.task = .scanRead →
    s.scan.step = .rebuild r n → n < s.rebuildSlots r →
    let bytes := Memory.readBytes s.array (op.sector.toNat * 1024 + op.slot * 32) 32
    ∃ t, exec .scanReadEnd s = .next t ∧ t.scan.step = .rebuild r (n + 1) ∧
      t.store.op = some
        { task := .scanRead, sector := .ring r, slot := n + 1, offset := 0, bytes := [], aborting := false } ∧
      Changes [.scan, .store] s t ∧ t.store.table = s.store.table ∧
      (parseRecord bytes = none → t.store.map = s.store.map ∧ t.scan.newest = s.scan.newest) ∧
      (∀ x, parseRecord bytes = some x →
        let old := (s.store.map.get x.content.channel).designated
        ((∀ d, old = some d → d.sequence ≤ x.sequence) →
          t.store.map.get x.content.channel =
            { designated := some { location := { sector := r, slot := n }, sequence := x.sequence }
              buckets := x.content.buckets, lost := x.content.lost, version := 0 }) ∧
        (∀ d, old = some d → x.sequence < d.sequence → t.store.map = s.store.map) ∧
        (∀ c, c ≠ x.content.channel → t.store.map.get c = s.store.map.get c) ∧
        ((∀ p, s.scan.newest = some p → p.1 ≤ x.sequence) → t.scan.newest = some (x.sequence, x.content.tariff)) ∧
        (∀ p, s.scan.newest = some p → x.sequence < p.1 → t.scan.newest = some p))) ∧
  (∀ (s : State) (op : Operation) (r : RingSector) (n : Nat), s.store.op = some op → op.task = .scanRead →
    s.scan.step = .rebuild r n → s.rebuildSlots r ≤ n →
    let u := match parseRecord (Memory.readBytes s.array (op.sector.toNat * 1024 + op.slot * 32) 32) with
      | none => s
      | some x => s.offerRecord r n x
    (∀ q : RingSector, r.toNat < q.toNat → 1 ≤ s.rebuildSlots q →
      (∀ p : RingSector, r.toNat < p.toNat → p.toNat < q.toNat → s.rebuildSlots p = 0) →
      ∃ t, exec .scanReadEnd s = .next t ∧ t.scan = { u.scan with step := .rebuild q 1 } ∧
        t.store =
          { u.store with
            op := some { task := .scanRead, sector := .ring q, slot := 1, offset := 0, bytes := [], aborting := false } } ∧
        Changes [.scan, .store] s t) ∧
    ((∀ q : RingSector, r.toNat < q.toNat → s.rebuildSlots q = 0) →
    s.power.pfailFiltered = false → s.link.jobs = [] → s.sched.queue = [] → s.store.holder = none →
    ∃ t, exec .scanReadEnd s = .next t ∧ t.power = { s.power with device := .run } ∧ t.scan.step = .done ∧
      t.capture.state = .live ∧
      (∀ c, t.capture.channels.get c =
          { sync := (s.capture.channels.get c).sync, run := 0, filtered := (s.capture.channels.get c).sync, pending := 0
            lost := (u.store.map.get c).lost } ∧
        t.accum.accounts.get c = { buckets := (u.store.map.get c).buckets, delta := 0, version := 0 }) ∧
      t.store.map = u.store.map ∧
      t.store.nextSequence = (match u.scan.newest with
        | some p => p.1 + 1
        | none => 1) ∧
      t.accum.tariff = (match s.config.live.globals.tariffSource, u.scan.newest with
        | .lines, _ => s.accum.tsel.filtered
        | .host, some p => p.2
        | .host, none => .t0) ∧
      (∀ q, (t.store.table.get q).state = (s.store.table.get q).state ∧
        (t.store.table.get q).eraseCount = (s.store.table.get q).eraseCount ∧
        (t.store.table.get q).mapRecords =
          (Channel.all.filter (fun c =>
            ((u.store.map.get c).designated.map (fun d => d.location.sector)) == some q)).length) ∧
      (t.store.exhausted = true ↔ s.soundSectors < 4) ∧
      t.notices.records.get .power =
        NoticeRecord.raised (s.notices.records.get .power) .power (.power (.started s.power.startCause)) ∧
      t.notices.records.get .config =
        (if s.config.outcome = .bothValid then s.notices.records.get .config
          else NoticeRecord.raised (s.notices.records.get .config) .config (.config s.config.outcome)) ∧
      t.notices.records.get .storeExhausted =
        (if s.soundSectors < 4 then NoticeRecord.raised (s.notices.records.get .storeExhausted) .storeExhausted .empty
          else s.notices.records.get .storeExhausted) ∧
      t.config = s.config ∧ t.link = { s.link with receiver := .hunt, gap := none } ∧ t.array = s.array) ∧
    ((∀ q : RingSector, r.toNat < q.toNat → s.rebuildSlots q = 0) → s.power.pfailFiltered = true →
      (∀ c, (u.store.map.get c).version = 0) → s.link.requests = [] → s.link.jobs = [] → s.link.transmitting = false →
      s.link.replies = [] →
      ∃ t, exec .scanReadEnd s = .next t ∧ t.power.device = .retain ∧ t.scan.step = .done ∧ t.capture.state = .frozen ∧
        t.store.op = none ∧ t.store.map = u.store.map ∧ t.sched.queue = [] ∧ t.sched.flushList = [] ∧
        t.notices.records.get .power =
          NoticeRecord.raised
            (NoticeRecord.raised (s.notices.records.get .power) .power (.power (.started s.power.startCause))) .power
            (.power .flushComplete) ∧
        t.link = s.link ∧ t.array = s.array))

/-! ## Ends of array operations -/

/-- RECORD_PROGRAM_END and CONFIRM_PROGRAM_END, but for a passed confirm mark. A record program that ends PASS is followed at
once by the confirm program of its slot. One that ends FAIL, or a confirm program that does, is a failed attempt: the next one
follows, or after the third the job fails. A job cut by FLUSH entry, other than a commit of the flush list, begins no further
operation (R54, R59, R73, R74, R96). -/
def Obligations.RecordProgramEndLeadsToTheConfirmMark : Prop :=
  ∀ (s : State) (op : Operation) (h : Hold) (l : Location), s.store.op = some op → s.store.holder = some h →
    h.place = some l →
    let cut := s.power.device = .flush ∧ h.job.isFlush = false
    let h' : Hold := { h with attempts := h.attempts + 1, fault := some l.sector }
    let failed : State :=
      { s with
        array := Memory.programFailed s.array op.address op.bytes.length s.free
        free := s.free + op.bytes.length
        store := { s.store with op := none, holder := some h' } }
    let next : State := State.arbiter (if h.attempts < 2 then failed.nextAttempt h' else failed.jobFails h')
    let ended (o : ProgramOutcome) : State :=
      State.arbiter
        { s.endProgram op o with store := { s.store with op := none, holder := none } }
    (op.task = .recordProgram →
      (¬ cut →
        exec (.recordProgramEnd .pass) s = .next
          { s with
            array := Memory.program s.array op.address op.bytes
            store :=
              { s.store with
                op := some
                  { task := .confirmProgram, sector := .ring l.sector, slot := l.slot, offset := 31, bytes := [0]
                    aborting := false } } } ∧
        exec (.recordProgramEnd .fail) s = .next next) ∧
      (cut → ∀ o, exec (.recordProgramEnd o) s = .next (ended o))) ∧
    (op.task = .confirmProgram →
      (¬ cut → exec (.confirmProgramEnd .fail) s = .next next) ∧
      (cut → exec (.confirmProgramEnd .fail) s = .next (ended .fail)))

/-- CONFIRM_PROGRAM_END with PASS. A commit's record becomes its channel's designated record, the map entry takes the
snapshot's values and version, the delta is reduced by the snapshot's, the map-records counts follow the move, and the waiters
are told, in the order attached, that it succeeded. A copy changes the location and the sequence only, and the copy position
passes the channel; past CH7 the engine enters MARK, in FLUSH too (log 32) (R40, R49, R64, R76, R87, R88). -/
def Obligations.PassedConfirmMarkDesignatesTheRecord : Prop :=
  ∀ (s : State) (op : Operation) (h : Hold) (l : Location), s.store.op = some op → op.task = .confirmProgram →
    s.store.holder = some h → h.place = some l →
    let moved (c : Channel) (v : State) : Prop :=
      let old := (s.store.map.get c).designated.map (fun d => d.location.sector)
      ∀ q : RingSector, v.store.table.get q =
        { s.store.table.get q with
          mapRecords :=
            if old = some l.sector then (s.store.table.get q).mapRecords
            else if q = l.sector then (s.store.table.get q).mapRecords + 1
            else if old = some q then (s.store.table.get q).mapRecords - 1
            else (s.store.table.get q).mapRecords }
    let new : Designation := { location := l, sequence := h.sequence }
    (∀ j, h.job = .commit j →
      let a := s.accum.accounts.get j.channel
      ∃ v : State,
        exec (.confirmProgramEnd .pass) s =
          .next (State.arbiter (j.waiters.foldl (fun u w => u.tell j.channel .succeeded w) v)) ∧
        v.store =
          { s.store with
            op := none, holder := none, table := v.store.table
            map := s.store.map.set j.channel
              { designated := some new, buckets := j.snapshot.buckets, lost := j.snapshot.lost
                version := j.snapshot.version } } ∧
        moved j.channel v ∧
        v.accum =
          { s.accum with
            accounts := s.accum.accounts.set j.channel { a with delta := a.delta - j.snapshot.delta } } ∧
        v.array = Memory.program s.array op.address op.bytes ∧ Changes [.store, .accum, .array] s v) ∧
    (∀ j target p, h.job = .copy j → s.engine.phase = .copy target p →
      ∃ v : State,
        exec (.confirmProgramEnd .pass) s = .next (State.arbiter v) ∧
        v.store =
          { s.store with
            op := none, holder := none, table := v.store.table
            map := s.store.map.set j.channel { s.store.map.get j.channel with designated := some new } } ∧
        moved j.channel v ∧
        v.engine = { s.engine with phase := if p < 7 then .copy target (p + 1) else .mark target } ∧
        v.array = Memory.program s.array op.address op.bytes ∧ Changes [.store, .engine, .array] s v)

/-- EPOCH_PROGRAM_END. On PASS the sector is OPEN with the epoch just issued and the attempt takes its slot 1. On FAIL it is
SPOILED and the next candidate, the ERASED sector of the lowest erase count and the lowest number among equals, gets the next
epoch programmed; with none the job fails. The spoiled sector is then that of the job's last FAIL, also
where an attempt has failed before (log 31). A job cut by FLUSH entry takes no slot and no candidate (R65, R67, R68, R72, R73). -/
def Obligations.EpochProgramEndOpensTheHead : Prop :=
  ∀ (s : State) (op : Operation) (h : Hold) (r : RingSector) (content : RecordContent), s.store.op = some op →
    op.task = .epochProgram → op.sector = .ring r → s.store.holder = some h → h.job.content = some content →
    let cut := s.power.device = .flush ∧ h.job.isFlush = false
    let table (x : SectorState) := s.store.table.set r { s.store.table.get r with state := x }
    let e := s.store.highestEpoch
    let failed (x : Store) : State :=
      { s with
        array := Memory.programFailed s.array op.address op.bytes.length s.free
        free := s.free + op.bytes.length
        store := x }
    let h' : Hold := { h with fault := some r }
    (¬ cut →
      exec (.epochProgramEnd .pass) s = .next
        { s with
          array := Memory.program s.array op.address op.bytes
          store :=
            { s.store with
              op := some
                { task := .recordProgram, sector := .ring r, slot := 1, offset := 0
                  bytes := recordBytes content s.store.nextSequence, aborting := false }
              holder := some { h with place := some { sector := r, slot := 1 }, sequence := s.store.nextSequence }
              table := table (.opened e 2)
              nextSequence := s.store.nextSequence + 1 } }) ∧
    (cut →
      exec (.epochProgramEnd .pass) s = .next
        (State.arbiter
          { s with
            array := Memory.program s.array op.address op.bytes
            store := { s.store with op := none, holder := none, table := table (.opened e 1) } }) ∧
      exec (.epochProgramEnd .fail) s = .next
        (State.arbiter (failed { s.store with op := none, holder := none, table := table .spoiled }))) ∧
    (¬ cut → s.openSector? = none →
      (∀ k, ((table .spoiled).get k).state = .erased →
        (∀ q, q ≠ k → ((table .spoiled).get q).state = .erased →
          ((table .spoiled).get k).eraseCount < ((table .spoiled).get q).eraseCount ∨
            (((table .spoiled).get k).eraseCount = ((table .spoiled).get q).eraseCount ∧ k.toNat < q.toNat)) →
        exec (.epochProgramEnd .fail) s = .next
          (failed
            { s.store with
              op := some
                { task := .epochProgram, sector := .ring k, slot := 0, offset := 4, bytes := fieldBytes 4 (e + 1)
                  aborting := false }
              holder := some { h' with place := none }
              table := table .spoiled
              highestEpoch := e + 1 })) ∧
      ((∀ k, ((table .spoiled).get k).state ≠ .erased) →
        exec (.epochProgramEnd .fail) s = .next
          (State.arbiter (State.jobFails (failed { s.store with op := none, table := table .spoiled }) h'))))

/-- COPY_READ_END. A copy's values are the map entry's. Its tariff is the record's if the slot's 32 bytes are a valid record of
the channel with the map entry's sequence, in a sector in use; else STORE_FAULT is raised with the target and the tariff is the
active one. Its first attempt follows. In FLUSH the copy ends instead (R71, R88, R96). -/
def Obligations.CopyReadEndChecksAndWrites : Prop :=
  ∀ (s : State) (op : Operation) (h : Hold) (c : Channel) (target : RingSector), s.store.op = some op →
    op.task = .copyRead → s.store.holder = some h → h.job = .reading c target →
    let bytes := Memory.readBytes s.array (op.sector.toNat * 1024 + op.slot * 32) 32
    let good (x : ReadRecord) (d : Designation) : Prop :=
      parseRecord bytes = some x ∧ (s.store.map.get c).designated = some d ∧
        (s.store.table.get target).state.isInUse = true ∧ x.content.channel = c ∧ x.sequence = d.sequence
    let copy (t : Tariff) : Hold :=
      { job := .copy
          { channel := c, target := target, tariff := t, buckets := (s.store.map.get c).buckets
            lost := (s.store.map.get c).lost }
        attempts := 0, place := none, sequence := 0, fault := none }
    let begun (t : Tariff) : State := { s with store := { s.store with op := none, holder := some (copy t) } }
    (s.power.device = .flush →
      exec .copyReadEnd s = .next (State.arbiter { s with store := { s.store with op := none, holder := none } })) ∧
    (s.power.device ≠ .flush →
      (∀ x d, good x d →
        exec .copyReadEnd s = .next (State.arbiter (State.nextAttempt (begun x.content.tariff) (copy x.content.tariff)))) ∧
      ((∀ x d, ¬ good x d) →
        exec .copyReadEnd s = .next
          (State.arbiter
            (State.nextAttempt (State.raise (begun s.accum.tariff) .storeFault (.sector target.toNat))
              (copy s.accum.tariff)))))

/-- RETIRE_PROGRAM_END, ERASE_END and COUNT_PROGRAM_END. After MARK the target is RETIRING, whatever the outcome, and ERASE
begins its count of erases. An erase that passes leads to COUNT, one that fails to another, and the third failure makes the
target WORN with STORE_FAULT; an aborted one makes it SPOILED. COUNT adds 1 to the erase count, and the target is WORN at
100,000, else ERASED on PASS and SPOILED on FAIL. A sector that becomes WORN can exhaust the store: with fewer than 4 that are
not, STORE_EXHAUSTED is raised and every entry of the commit queue is resolved (R59, R60, R81, R90 to R95). -/
def Obligations.CompactionOperationEnds : Prop :=
  ∀ (s : State) (op : Operation) (r : RingSector), s.store.op = some op →
    let become (u : State) (x : SectorState) (count : Nat) (p : Phase) : State :=
      { u with
        store := { u.store with table := s.store.table.set r { s.store.table.get r with state := x, eraseCount := count } }
        engine := { s.engine with phase := p } }
    let count := (s.store.table.get r).eraseCount
    let tested (u : State) : State :=
      if u.store.exhausted = false ∧ u.soundSectors < 4 then
        State.resolveExhausted (State.raise { u with store := { u.store with exhausted := true } } .storeExhausted .empty)
      else u
    (∀ o, op.task = .retireProgram → op.sector = .ring r →
      exec (.retireProgramEnd o) s = .next (State.arbiter (become (s.endProgram op o) .retiring count (.erase r 0)))) ∧
    (∀ n, op.task = .ringErase → s.engine.phase = .erase r n →
      (op.aborting = false →
        exec (.eraseEnd .pass) s = .next
          (State.arbiter { s.endErase op .pass with engine := { s.engine with phase := .count r } }) ∧
        (n < 2 →
          exec (.eraseEnd .fail) s = .next
            (State.arbiter { s.endErase op .fail with engine := { s.engine with phase := .erase r (n + 1) } })) ∧
        (2 ≤ n →
          exec (.eraseEnd .fail) s = .next
            (State.arbiter
              (tested
                (State.raise (become (s.endErase op .fail) .worn count .idle) .storeFault (.sector r.toNat)))))) ∧
      (op.aborting = true →
        exec (.eraseEnd .aborted) s = .next (State.arbiter (become (s.endErase op .aborted) .spoiled count .idle)))) ∧
    (op.task = .countProgram → s.engine.phase = .count r →
      (100000 ≤ count + 1 → ∀ o,
        exec (.countProgramEnd o) s = .next
          (State.arbiter (tested (become (s.endProgram op o) .worn (count + 1) .idle)))) ∧
      (count + 1 < 100000 →
        exec (.countProgramEnd .pass) s = .next
          (State.arbiter (become (s.endProgram op .pass) .erased (count + 1) .idle)) ∧
        exec (.countProgramEnd .fail) s = .next
          (State.arbiter (become (s.endProgram op .fail) .spoiled (count + 1) .idle))))

/-- CONFIG_ERASE_END, IMAGE_PROGRAM_END and SLOT_READ_END of the array host job at work. An APPLY's passed erase leads to its
slot 3, each passed slot program to the slot below, and slot 0 to the swap; a failure of any step raises STORE_FAULT with the
target and ends the job with STORE_FAILED. The swap drains every channel under the old settings, makes the image, its
generation and its sector live, re-initialises the channels whose mode, polarity or filter changed, follows the lines at a
change from HOST to LINES, restarts the interval and idle timers whose settings changed, and ends the job with the generation.
A READ_SLOT's reply carries the 32 bytes. With no such job, cancelled by FLUSH entry, the outcome is discarded
(R15, R32, R33, R42, R80, R103, R109 to R111, R115). -/
def Obligations.HostJobOperationEnds : Prop :=
  ∀ (s : State) (op : Operation), LinkLaw s → s.store.op = some op →
    let ended (u : State) (w : JobSlot) (kind tag status : Byte) (payload : List Byte) : State :=
      State.startTransmitter
        { u with
          link :=
            { u.link with
              jobs := u.link.jobs.filter (fun x => x.slot ≠ w)
              replies := u.link.replies ++ [{ kind := kind, tag := tag, status := status, payload := payload }] } }
    (∀ j image p, s.arrayJob? = some j → j.state = .apply image (some p) →
      let at_ (u : State) (k : Nat) : State :=
        { u with
          link :=
            { s.link with
              jobs := s.link.jobs.map (fun x =>
                if x.slot = j.slot then { x with state := .apply image (some { p with step := .program k }) } else x) } }
      let fails (u : State) : State :=
        ended (State.raise u .storeFault (.sector (match p.target with
          | .a => 0
          | .b => 1))) j.slot 0xA5 j.tag 0x07 []
      (op.task = .configErase → op.aborting = false →
        exec (.configEraseEnd .pass) s = .next (State.arbiter (at_ (s.endErase op .pass) 3)) ∧
        exec (.configEraseEnd .fail) s = .next (State.arbiter (fails (s.endErase op .fail)))) ∧
      (op.task = .imageProgram →
        exec (.imageProgramEnd .fail) s = .next (State.arbiter (fails (s.endProgram op .fail))) ∧
        (∀ k, p.step = .program (k + 1) →
          exec (.imageProgramEnd .pass) s = .next (State.arbiter (at_ (s.endProgram op .pass) k))) ∧
        (p.step = .program 0 →
          ∃ t : State, exec (.imageProgramEnd .pass) s = .next (State.arbiter (ended t j.slot 0xA5 j.tag 0 (leBytes 4 p.generation))) ∧
            t.config =
              { s.config with
                live := image, generation := p.generation, liveSector := some p.target
                staged := if s.service.session = .closed then image else s.config.staged } ∧
            t.capture.state = s.capture.state ∧
            (∀ c,
              let k := s.capture.channels.get c
              let a := s.config.live.channels.get c
              let b := image.channels.get c
              t.capture.channels.get c =
                (if a.mode = b.mode ∧ a.polarity = b.polarity ∧ a.filter = b.filter then { k with pending := 0 }
                  else { k with pending := 0, filtered := k.sync, run := 0 }) ∧
              t.accum.accounts.get c = (s.drainCounts c).accum.accounts.get c) ∧
            t.accum.tariff =
              (if s.config.live.globals.tariffSource = .host ∧ image.globals.tariffSource = .lines then s.accum.tsel.filtered
                else s.accum.tariff) ∧
            (s.config.live.globals.commitInterval = image.globals.commitInterval →
              t.sched.interval = s.sched.interval) ∧
            (s.config.live.globals.commitInterval ≠ image.globals.commitInterval → t.sched.interval = 0) ∧
            t.service.session =
              (match s.service.session with
                | .closed => .closed
                | .opened n => if s.config.live.globals.idleTimeout = image.globals.idleTimeout then .opened n else .opened 0) ∧
            (s.store.exhausted = false → t.link = s.link) ∧
            t.array = Memory.program s.array op.address op.bytes ∧
            Changes [.array, .store, .capture, .accum, .sched, .config, .service, .notices, .link] s t ∧
            t.store = { s.store with op := none }))) ∧
    (∀ j k n, s.arrayJob? = some j → j.state = .readSlot k n → op.task = .slotRead →
      exec .slotReadEnd s = .next
        (State.arbiter
          (ended { s with store := { s.store with op := none } } j.slot 0x86 j.tag 0
            (Memory.readBytes s.array (op.sector.toNat * 1024 + op.slot * 32) 32)))) ∧
    (s.arrayJob? = none →
      (op.task = .configErase → ∀ o, (o = .aborted ↔ op.aborting = true) →
        exec (.configEraseEnd o) s = .next (State.arbiter (s.endErase op o))) ∧
      (op.task = .imageProgram → ∀ o, exec (.imageProgramEnd o) s = .next (State.arbiter (s.endProgram op o))) ∧
      (op.task = .slotRead →
        exec .slotReadEnd s = .next (State.arbiter { s with store := { s.store with op := none } })))

/-! ## The serial line -/

/-- The receiver takes each character according to its state, and a framing error outside HUNT discards the frame with CHECK.
The CRC of the last character is taken over LEN and the stored bytes; a good frame is offered to admission. GAP_TIMER_EXPIRY at
the fifth tick discards the frame with GAP (R157; log 6). A discard returns the receiver to HUNT with the gap timer stopped;
outside START it is counted up to 65,535 and LINK is raised with its reason (R156, R159). -/
def Obligations.ReceiverTakesEachCharacter : Prop :=
  ∀ (s : State) (b : Byte), s.alive = true →
    let at_ (r : Receiver) (gap : Option Nat) : State := { s with link := { s.link with receiver := r, gap := gap } }
    let dropped (reason : Byte) : State :=
      if s.power.device = .start then at_ .hunt none
      else
        State.raise
          { s with
            link := { s.link with receiver := .hunt, gap := none, discarded := min 65535 (s.link.discarded + 1) } }
          .link (.reasons reason)
    let out := exec (.characterReceived b false) s
    (s.link.receiver = .hunt → (b = 0xC3 → out = .next (at_ .length (some 0))) ∧ (b ≠ 0xC3 → out = .next s) ∧
      exec (.characterReceived b true) s = .next s) ∧
    (s.link.receiver ≠ .hunt → exec (.characterReceived b true) s = .next (dropped 1)) ∧
    (s.link.receiver = .length →
      (2 ≤ b.toNat → b.toNat ≤ 62 → out = .next (at_ (.body b.toNat []) (some 0))) ∧
      ((b.toNat < 2 ∨ 62 < b.toNat) → out = .next (dropped 4))) ∧
    (∀ len stored, s.link.receiver = .body len stored →
      (stored.length + 1 < len → out = .next (at_ (.body len (stored ++ [b])) (some 0))) ∧
      (len ≤ stored.length + 1 → out = .next (at_ (.check len (stored ++ [b]) none) (some 0)))) ∧
    (∀ len stored, s.link.receiver = .check len stored none → out = .next (at_ (.check len stored (some b)) (some 0))) ∧
    (∀ len stored first, s.link.receiver = .check len stored (some first) →
      (crcBytes (BitVec.ofNat 8 len :: stored) ≠ [first, b] → out = .next (dropped 1)) ∧
      (∀ kind tag payload, stored = kind :: tag :: payload → crcBytes (BitVec.ofNat 8 len :: stored) = [first, b] →
        out = .next (State.admitRequest (at_ .hunt none) { kind := kind, tag := tag, payload := payload }))) ∧
    (∀ n, s.link.gap = some n → 5 ≤ n + 1 → exec .gapTimerExpiry s = .next (dropped 2))

/-- REQUEST_FRAME, the last check byte of a good frame (log 11), admits the request or discards the frame by the tests in order; an
admitted one joins the tail of the request queue, takes one credit and restarts the idle timer of an OPEN session. RDY is active
exactly when the tests hold (R158, R161). -/
def Obligations.GoodFramesAreAdmittedByTheTests : Prop :=
  ∀ (s : State) (len : Nat) (kind tag first last : Byte) (payload : List Byte), s.alive = true →
    s.link.receiver = .check len (kind :: tag :: payload) (some first) →
    crcBytes (BitVec.ofNat 8 len :: kind :: tag :: payload) = [first, last] →
    let dropped (reason : Byte) : State :=
      if s.power.device = .start then { s with link := { s.link with receiver := .hunt, gap := none } }
      else
        State.raise
          { s with
            link := { s.link with receiver := .hunt, gap := none, discarded := min 65535 (s.link.discarded + 1) } }
          .link (.reasons reason)
    exec (.requestFrame last) s = exec (.characterReceived last false) s ∧
    (s.power.device ≠ .run → exec (.requestFrame last) s = .next (dropped 16)) ∧
    (s.power.device = .run → (4 ≤ s.link.requests.length ∨ 6 ≤ s.link.credits) →
      exec (.requestFrame last) s = .next (dropped 8)) ∧
    (s.power.device = .run → s.link.requests.length < 4 → s.link.credits < 6 →
      exec (.requestFrame last) s = .next
        { s with
          link :=
            { s.link with
              receiver := .hunt, gap := none, credits := s.link.credits + 1
              requests := s.link.requests ++ [{ kind := kind, tag := tag, payload := payload }] }
          service :=
            { s.service with
              session := match s.service.session with
                | .closed => .closed
                | .opened _ => .opened 0 } }) ∧
    (s.rdy = true ↔ s.power.device = .run ∧ s.link.requests.length < 4 ∧ s.link.credits < 6)

/-- A whole request frame, taken character by character from HUNT with RDY active, is admitted as it was sent, whatever its KIND,
its TAG and its 0 to 60 payload bytes (R156, R158, R161, R188, R190). -/
def Obligations.WholeFramesAreAdmittedAsSent : Prop :=
  ∀ (s : State) (kind tag : Byte) (payload : List Byte), s.alive = true → s.link.receiver = .hunt → s.rdy = true →
    payload.length ≤ 60 →
    receive (requestFrameBytes kind tag payload) s =
      { s with
        link :=
          { s.link with
            gap := none, credits := s.link.credits + 1
            requests := s.link.requests ++ [{ kind := kind, tag := tag, payload := payload }] }
        service :=
          { s.service with
            session := match s.service.session with
              | .closed => .closed
              | .opened _ => .opened 0 } }

/-- REPLY_SENT: the frame's credit is returned and the next reply begins in RUN and FLUSH. The reply to an accepted RESTART owes a
restart, and from RUN enters FLUSH. In the reply wait the last reply ends it: START is entered with cause RESTART
(R121, R127, R160, R166). The FLUSH entry is stated with the array in use. -/
def Obligations.ReplySentReturnsTheCredit : Prop :=
  ∀ (s : State) (r : Reply) (rest : List Reply), s.link.transmitting = true → s.link.replies = r :: rest →
    let restarts := r.kind = 0xB0 ∧ r.status = 0
    let sent : State :=
      { s with
        link :=
          { s.link with
            replies := rest, credits := s.link.credits - 1
            transmitting := !rest.isEmpty && (s.power.device == .run || s.power.device == .flush) } }
    (¬ restarts → (s.power.replyWait = false ∨ rest ≠ []) → exec .replySent s = .next sent) ∧
    (restarts → s.power.device ≠ .run → (s.power.replyWait = false ∨ rest ≠ []) →
      exec .replySent s = .next { sent with power := { s.power with restartOwed := true } }) ∧
    (restarts → s.power.device = .run → ∀ op, s.store.op = some op →
      ∃ t, exec .replySent s = .next t ∧ t.power.device = .flush ∧ t.power.restartOwed = true ∧ t.capture.state = .frozen ∧
        t.link.credits = s.link.credits - 1 ∧ t.link.requests = [] ∧ t.link.jobs = [] ∧ t.service.session = .closed ∧
        t.link.replies.length = rest.length + s.link.jobs.length + s.link.requests.length ∧ t.array = s.array) ∧
    (s.power.replyWait = true → s.power.device = .flush → rest = [] →
      ∃ t, exec .replySent s = .next t ∧ StartEntered t .restart ∧ FirstRead t ∧ t.timebase = s.timebase ∧
        t.array = s.array ∧ t.link.lineRate = State.strapRate s.pins)

/-! ## Requests -/

/-- PING, GET_STATUS, READ_CHANNEL and READ_COMMITTED answer from the state of the happening and change nothing else; a channel
above 7 is BAD_ARGUMENT (R171 to R175). -/
def Obligations.StatusAndTotalsRequestsReport : Prop :=
  ∀ (s : State) (tag : Byte) (rest : List Request),
    (AtHead s 0x01 tag [] rest →
      exec (.ping tag []) s = .next (s.answered rest 0x01 tag .ok [0xC8, 0x12, 3, 1, 8, 4, 14])) ∧
    (AtHead s 0x02 tag [] rest → ∀ pending : Byte,
      (∀ k : NoticeKind, pending.getLsbD k.number = (s.notices.records.get k).pending) →
      exec (.getStatus tag []) s = .next
        (s.answered rest 0x02 tag .ok
          ([1, if s.store.op = none then 1 else 2, if s.store.exhausted = true then 1 else 0,
              (match s.engine.phase with
                | .idle => 0
                | .copy _ _ => 1
                | .mark _ => 2
                | .erase _ _ => 3
                | .count _ => 4),
              if s.service.session = .closed then 0 else 1, BitVec.ofNat 8 s.accum.tariff.toNat,
              if s.config.live.globals.tariffSource = .host then 0 else 1] ++
            leBytes 2 s.freeSlots ++
            [BitVec.ofNat 8 s.erasedSectors, BitVec.ofNat 8 s.sched.queue.length, BitVec.ofNat 8 s.link.credits, pending,
              if s.notices.armed = true then 1 else 0] ++
            leBytes 2 s.link.discarded ++ leBytes 4 s.config.generation ++ leBytes 4 s.store.nextSequence))) ∧
    (∀ b : Byte, AtHead s 0x03 tag [b] rest →
      (∀ c : Channel, b.toNat = c.toNat →
        let a := s.accum.accounts.get c
        let k := s.capture.channels.get c
        exec (.readChannel tag [b]) s = .next
          (s.answered rest 0x03 tag .ok
            ([b] ++ leBytes 5 a.buckets.t0.toNat ++ leBytes 5 a.buckets.t1.toNat ++ leBytes 5 a.buckets.t2.toNat ++
              leBytes 5 a.buckets.t3.toNat ++ [BitVec.ofNat 8 k.pending] ++ leBytes 2 k.lost ++ leBytes 6 a.delta ++
              [(if a.version = (s.store.map.get c).version then 0 else 1) ||| (if s.queued c = true then 2 else 0) |||
                (if s.inJob c = true then 4 else 0) ||| (if k.filtered = .high then 8 else 0)]))) ∧
      (8 ≤ b.toNat → exec (.readChannel tag [b]) s = .next (s.answered rest 0x03 tag .badArgument []))) ∧
    (∀ b : Byte, AtHead s 0x04 tag [b] rest →
      (∀ c : Channel, b.toNat = c.toNat →
        let e := s.store.map.get c
        let totals := leBytes 5 e.buckets.t0.toNat ++ leBytes 5 e.buckets.t1.toNat ++ leBytes 5 e.buckets.t2.toNat ++
          leBytes 5 e.buckets.t3.toNat ++ leBytes 2 e.lost
        (e.designated = none →
          exec (.readCommitted tag [b]) s = .next (s.answered rest 0x04 tag .ok ([b, 0, 0, 0, 0, 0, 0, 0] ++ totals))) ∧
        (∀ d, e.designated = some d →
          exec (.readCommitted tag [b]) s = .next
            (s.answered rest 0x04 tag .ok
              ([b, 1, BitVec.ofNat 8 d.location.sector.toNat, BitVec.ofNat 8 d.location.slot] ++ leBytes 4 d.sequence ++
                totals)))) ∧
      (8 ≤ b.toNat → exec (.readCommitted tag [b]) s = .next (s.answered rest 0x04 tag .badArgument [])))

/-- GET_STORE_MAP reports the ring sector table from the sector asked for upward, 6 bytes each, at most 8 sectors and not past
15 (R176), and READ_CONFIG one item of the live or the staged configuration, which reads as the live one while the session is
CLOSED (R184); other arguments are BAD_ARGUMENT, and nothing else changes. -/
def Obligations.StoreMapAndConfigRequestsReport : Prop :=
  ∀ (s : State) (tag : Byte) (rest : List Request),
    (∀ b : Byte, AtHead s 0x05 tag [b] rest →
      (∀ rs : List RingSector, rs.map RingSector.toNat = (List.range (min 8 (16 - b.toNat))).map (· + b.toNat) →
        2 ≤ b.toNat → b.toNat ≤ 15 →
        exec (.getStoreMap tag [b]) s = .next
          (s.answered rest 0x05 tag .ok
            ([b, BitVec.ofNat 8 (min 8 (16 - b.toNat))] ++
              rs.flatMap (fun r =>
                let e := s.store.table.get r
                (match e.state with
                  | .erased => [0, 0]
                  | .opened _ n => [1, BitVec.ofNat 8 (n - 1)]
                  | .filled _ => [2, 31]
                  | .retiring => [3, 31]
                  | .spoiled => [4, 0]
                  | .worn => [5, 0]) ++ leBytes 3 e.eraseCount ++ [BitVec.ofNat 8 e.mapRecords])))) ∧
      ((b.toNat < 2 ∨ 15 < b.toNat) →
        exec (.getStoreMap tag [b]) s = .next (s.answered rest 0x05 tag .badArgument []))) ∧
    (∀ view item : Byte, AtHead s 0x24 tag [view, item] rest →
      (∀ g : Configuration, view.toNat ≤ 1 → (view = 0 → g = s.config.live) →
        (view = 1 → g = s.config.staged ∨ (StagedLaw s ∧ s.service.session = .closed ∧ g = s.config.live)) →
        (∀ c : Channel, item.toNat = c.toNat →
          let x := g.channels.get c
          exec (.readConfig tag [view, item]) s = .next
            (s.answered rest 0x24 tag .ok
              ([view, item,
                  (match x.mode with
                    | .off => 0
                    | .edge => 1
                    | .time => 2),
                  (match x.polarity with
                    | .rising => 0
                    | .falling => 1),
                  BitVec.ofNat 8 x.filter] ++ leBytes 2 x.weight ++ leBytes 4 x.threshold))) ∧
        (item = 8 →
          exec (.readConfig tag [view, item]) s = .next
            (s.answered rest 0x24 tag .ok
              ([view, item] ++ leBytes 2 g.globals.commitInterval ++
                [(match g.globals.tariffSource with
                    | .host => (0 : Byte)
                    | .lines => 1),
                  if g.globals.commitOnTariff = true then 1 else 0] ++ leBytes 2 g.globals.idleTimeout)))) ∧
      ((1 < view.toNat ∨ 8 < item.toNat) →
        exec (.readConfig tag [view, item]) s = .next (s.answered rest 0x24 tag .badArgument [])))

/-- R178: SET_TARIFF is BAD_ARGUMENT above 3, then WRONG_SOURCE under LINES, and otherwise a tariff switch, or nothing for the
active tariff, complete when its reply, with the tariff, enters the reply queue, and then the arbiter chooses; no session is
needed. While the store is EXHAUSTED it is answered the same way and the queue is empty after it. -/
def Obligations.SetTariffSwitchesUnderHost : Prop :=
  ∀ (s : State) (tag : Byte) (rest : List Request) (b : Byte), AtHead s 0x10 tag [b] rest →
    let out := exec (.setTariff tag [b]) s
    (3 < b.toNat → out = .next (s.answered rest 0x10 tag .badArgument [])) ∧
    (b.toNat ≤ 3 → s.config.live.globals.tariffSource = .lines → out = .next (s.answered rest 0x10 tag .wrongSource [])) ∧
    (∀ t : Tariff, b.toNat = t.toNat → s.config.live.globals.tariffSource = .host →
      let u := State.tariffSwitch { s with link := { s.link with requests := rest } } t
      out = .next (State.arbiter (u.answered rest 0x10 tag .ok [b])) ∧
      (s.store.op ≠ none → out = .next (u.answered rest 0x10 tag .ok [b])) ∧
      (t = s.accum.tariff → out = .next (State.arbiter (s.answered rest 0x10 tag .ok [b]))) ∧
      ∃ v, out = .next v ∧ v.accum.tariff = t ∧
        { kind := 0x90, tag := tag, status := 0, payload := [b] } ∈ v.link.replies ∧
        (s.store.exhausted = true → s.sched.queue = [] → v.sched.queue = []))

/-- READ_SLOT, COMMIT and LOAD_TOTALS: their checks in order, the test for a free entry last, and then the job in the first free
entry (log 20): READ_SLOT's waits for the arbiter, COMMIT's delivers REQUEST for each channel of its mask in ascending order,
LOAD_TOTALS drains its channel, replaces the buckets, advances the live version, clears the lost-edge count and delivers LOAD
(R34, R44, R45, R163, R164, R177, R179, R186). -/
def Obligations.JobRequestsAreCheckedAndAccepted : Prop :=
  ∀ (s : State) (tag : Byte) (rest : List Request),
    (∀ a b : Byte, AtHead s 0x06 tag [a, b] rest →
      let out := exec (.readSlot tag [a, b]) s
      ((15 < a.toNat ∨ 31 < b.toNat) → out = .next (s.answered rest 0x06 tag .badArgument [])) ∧
      (∀ k : Sector, a.toNat = k.toNat → b.toNat ≤ 31 →
        (s.jobsFull → out = .next (s.answered rest 0x06 tag .jobsFull [])) ∧
        ∀ w, s.freeJob w → out = .next (State.arbiter (s.accepted rest w tag (.readSlot k b.toNat))))) ∧
    (∀ b : Byte, AtHead s 0x11 tag [b] rest →
      let out := exec (.commit tag [b]) s
      (b = 0 → out = .next (s.answered rest 0x11 tag .badArgument [])) ∧
      (b ≠ 0 → s.jobsFull → out = .next (s.answered rest 0x11 tag .jobsFull [])) ∧
      (b ≠ 0 → ∀ w, s.freeJob w →
        out = .next
          (State.arbiter
            ((Channel.all.filter (fun c => b.getLsbD c.toNat)).foldl (fun u c => u.deliverCause c .request (some w))
              (s.accepted rest w tag (.commitWait b none)))))) ∧
    (∀ (b : Byte) (new : PerTariff Bucket), AtHead s 0x27 tag (b :: bucketBytes new) rest →
      let out := exec (.loadTotals tag (b :: bucketBytes new)) s
      (s.service.session = .closed → out = .next (s.answered rest 0x27 tag .needsService [])) ∧
      (∀ n, s.service.session = .opened n →
        (7 < b.toNat → out = .next (s.answered rest 0x27 tag .badArgument [])) ∧
        ∀ c : Channel, b.toNat = c.toNat →
          (s.jobsFull → out = .next (s.answered rest 0x27 tag .jobsFull [])) ∧
          ∀ w, s.freeJob w →
            let d := State.drainCounts (s.accepted rest w tag (.loadWait c)) c
            out = .next
              (State.arbiter
                (State.deliverCause
                  { d with
                    accum :=
                      { d.accum with
                        accounts := d.accum.accounts.set c
                          { d.accum.accounts.get c with
                            buckets := new, version := (d.accum.accounts.get c).version + 1 } }
                    capture :=
                      { d.capture with
                        channels := d.capture.channels.set c { d.capture.channels.get c with lost := 0 } } }
                  c .load (some w)))))

/-- The executor's own checks: an unknown KIND is answered UNKNOWN_KIND with its byte echoed, and a payload of another length than
its kind's BAD_LENGTH; RESTART is answered OK at once (R163, R165, R170, R187). -/
def Obligations.UnknownKindsAndWrongLengthsAreRefused : Prop :=
  [Status.ok, .unknownKind, .badLength, .badArgument, .needsService, .wrongSource, .jobsFull, .storeFailed, .storeExhausted,
    .cancelled, .svcLineInactive, .noNotice].map Status.code = [0, 1, 2, 3, 4, 5, 6, 7, 8, 9, 10, 11] ∧
  (∀ (b : Byte) (n : Nat),
    (∃ k, RequestKind.ofCode? b = some k ∧ k.payloadLength = n) ↔
      (b, n) ∈
        [((0x01 : Byte), 0), (0x02, 0), (0x03, 1), (0x04, 1), (0x05, 1), (0x06, 2), (0x10, 1), (0x11, 1), (0x18, 1), (0x19, 0),
          (0x1A, 1), (0x20, 0), (0x21, 0), (0x22, 10), (0x23, 6), (0x24, 2), (0x25, 0), (0x26, 0), (0x27, 21), (0x30, 0)]) ∧
  ∀ (s : State) (tag : Byte) (rest : List Request) (p : List Byte),
    (∀ kind : Byte, RequestKind.ofCode? kind = none → AtHead s kind tag p rest →
      exec (.unknownKind kind tag p) s = .next (s.answered rest kind tag .unknownKind [])) ∧
    (∀ (c : Instr) (k : RequestKind), c.wellFormed = true → c.request? = some (k.code, tag, p) → AtHead s k.code tag p rest →
      p.length ≠ k.payloadLength → exec c s = .next (s.answered rest k.code tag .badLength [])) ∧
    (AtHead s 0x30 tag [] rest → exec (.restart tag []) s = .next (s.answered rest 0x30 tag .ok []))

/-- FETCH_NOTICE: another flag than 0 or 1 is BAD_ARGUMENT; with no eligible kind the answer is NO_NOTICE and nothing changes;
else the eligible kind of the lowest number is answered with its count, its detail and the kinds still pending, its record is
cleared and the unit disarmed (R151, R180). -/
def Obligations.FetchNoticeReturnsTheHighestEligibleKind : Prop :=
  ∀ (s : State) (tag : Byte) (rest : List Request) (flag : Byte), AtHead s 0x18 tag [flag] rest →
    let eligible (k : NoticeKind) : Prop :=
      (s.notices.records.get k).pending = true ∧
        (flag = 1 ∨ k = .power ∨ s.notices.mask.getLsbD k.number = false)
    (1 < flag.toNat → exec (.fetchNotice tag [flag]) s = .next (s.answered rest 0x18 tag .badArgument [])) ∧
    (flag.toNat ≤ 1 → (∀ k, ¬ eligible k) →
      exec (.fetchNotice tag [flag]) s = .next (s.answered rest 0x18 tag .noNotice [])) ∧
    (flag.toNat ≤ 1 → ∀ k, eligible k → (∀ j, eligible j → k.number ≤ j.number) → ∀ (pending d1 d2 : Byte),
      (∀ j : NoticeKind, pending.getLsbD j.number = ((s.notices.records.get j).pending && j != k)) →
      (match (s.notices.records.get k).detail with
        | .empty => d1 = 0 ∧ d2 = 0
        | .power (.started .powerOn) => d1 = 1 ∧ d2 = 0
        | .power (.started .resetLine) => d1 = 2 ∧ d2 = 0
        | .power (.started .restart) => d1 = 3 ∧ d2 = 0
        | .power .flushComplete => d1 = 4 ∧ d2 = 0
        | .power (.flushIncomplete m) => d1 = 5 ∧ d2 = m
        | .power .resumed => d1 = 6 ∧ d2 = 0
        | .sector n => d1 = BitVec.ofNat 8 n ∧ d2 = 0
        | .config .bothValid => d1 = 0 ∧ d2 = 0
        | .config .oneCopy => d1 = 1 ∧ d2 = 0
        | .config .defaulted => d1 = 2 ∧ d2 = 0
        | .reasons r => d1 = r ∧ d2 = 0
        | .channels m => d1 = m ∧ d2 = 0
        | .rollover m bs => d1 = m ∧ d2.toNat = bs.toNat) →
      exec (.fetchNotice tag [flag]) s = .next
        (State.answered
          { s with
            notices :=
              { s.notices with
                armed := false
                records := s.notices.records.set k { pending := false, count := 0, detail := .empty } } }
          rest 0x18 tag .ok
          [BitVec.ofNat 8 k.number, BitVec.ofNat 8 (s.notices.records.get k).count, d1, d2, pending]))

/-- ACK_NOTICE arms the unit and is answered OK; SET_NOTICE_MASK replaces the mask with the set less POWER and answers with
the mask in force. Neither touches a record and neither needs a session (R153, R181); their rows change no notice outside RUN, where
no request is executed (log 4, log 10). ATTN is active exactly when the unit is armed and a pending notice is POWER or unmasked
(R150). -/
def Obligations.AckArmsAndSetMaskReplacesTheMask : Prop :=
  ∀ (s : State) (tag : Byte),
    (∀ rest, AtHead s 0x19 tag [] rest →
      exec (.ackNotice tag []) s = .next
        (State.answered { s with notices := { s.notices with armed := true } } rest 0x19 tag .ok [])) ∧
    (∀ (rest : List Request) (b m : Byte), AtHead s 0x1A tag [b] rest → m.getLsbD 0 = false →
      (∀ i, 1 ≤ i → m.getLsbD i = b.getLsbD i) →
      exec (.setNoticeMask tag [b]) s = .next
        (State.answered { s with notices := { s.notices with mask := m } } rest 0x1A tag .ok [m])) ∧
    (s.power.device ≠ .run → ∀ p,
      (∃ t, exec (.ackNotice tag p) s = .next t ∧ t.notices = s.notices) ∧
      ∃ t, exec (.setNoticeMask tag p) s = .next t ∧ t.notices = s.notices) ∧
    (s.attn = true ↔
      s.notices.armed = true ∧ ∃ k : NoticeKind, (s.notices.records.get k).pending = true ∧
        (k = .power ∨ s.notices.mask.getLsbD k.number = false))

/-- OPEN_SERVICE opens a CLOSED session while SVC is filtered active, with the staged configuration set equal to the live one,
and is SVC_LINE_INACTIVE otherwise; on an OPEN session it restarts the idle timer (log 25). CLOSE_SERVICE closes an OPEN
session without a notice and drops its edits. DISCARD_STAGED sets the staged configuration equal to the live one, and
APPLY_CONFIG's checks end in a job, in the first free entry (log 20), that holds the staged image; both are NEEDS_SERVICE
without a session (R103, R107, R113, R116, R117, R182, R183, R185). -/
def Obligations.SessionRequestsOpenCloseDiscardAndApply : Prop :=
  ∀ (s : State) (tag : Byte) (rest : List Request),
    let opened : State := { s with service := { s.service with session := .opened 0 } }
    let reset (u : State) : State := { u with config := { s.config with staged := s.config.live } }
    (AtHead s 0x20 tag [] rest →
      (∀ n, s.service.session = .opened n → exec (.openService tag []) s = .next (opened.answered rest 0x20 tag .ok [])) ∧
      (s.service.session = .closed → s.service.svcFiltered = true →
        exec (.openService tag []) s = .next ((reset opened).answered rest 0x20 tag .ok [])) ∧
      (s.service.session = .closed → s.service.svcFiltered = false →
        exec (.openService tag []) s = .next (s.answered rest 0x20 tag .svcLineInactive []))) ∧
    (AtHead s 0x21 tag [] rest →
      (∀ n, s.service.session = .opened n →
        exec (.closeService tag []) s = .next
          (State.answered (reset { s with service := { s.service with session := .closed } }) rest 0x21 tag .ok [])) ∧
      (s.service.session = .closed → exec (.closeService tag []) s = .next (s.answered rest 0x21 tag .ok []))) ∧
    (AtHead s 0x26 tag [] rest →
      (∀ n, s.service.session = .opened n →
        exec (.discardStaged tag []) s = .next ((reset s).answered rest 0x26 tag .ok [])) ∧
      (s.service.session = .closed → exec (.discardStaged tag []) s = .next (s.answered rest 0x26 tag .needsService []))) ∧
    (AtHead s 0x25 tag [] rest →
      (s.service.session = .closed → exec (.applyConfig tag []) s = .next (s.answered rest 0x25 tag .needsService [])) ∧
      (∀ n, s.service.session = .opened n →
        (200000 ≤ s.config.generation →
          exec (.applyConfig tag []) s = .next (s.answered rest 0x25 tag .storeExhausted [])) ∧
        (s.config.generation < 200000 →
          (s.jobsFull → exec (.applyConfig tag []) s = .next (s.answered rest 0x25 tag .jobsFull [])) ∧
          ∀ w, s.freeJob w →
            exec (.applyConfig tag []) s =
              .next (State.arbiter (s.accepted rest w tag (.apply s.config.staged none))))))

/-- STAGE_CHANNEL and STAGE_GLOBALS: NEEDS_SERVICE without a session, then BAD_ARGUMENT, with nothing changed, if any field is out
of range; else the staged channel or globals are exactly the request's values (R100, R117, R171, R183). -/
def Obligations.StageRequestsReplaceWholeSettings : Prop :=
  ∀ (s : State) (tag : Byte) (rest : List Request),
    (∀ b m p f w0 w1 t0 t1 t2 t3 : Byte, AtHead s 0x22 tag [b, m, p, f, w0, w1, t0, t1, t2, t3] rest →
      let out := exec (.stageChannel tag [b, m, p, f, w0, w1, t0, t1, t2, t3]) s
      (s.service.session = .closed → out = .next (s.answered rest 0x22 tag .needsService [])) ∧
      (∀ n, s.service.session = .opened n →
        ((7 < b.toNat ∨ 2 < m.toNat ∨ 1 < p.toNat ∨ 15 < f.toNat ∨ (w0 = 0 ∧ w1 = 0)) →
          out = .next (s.answered rest 0x22 tag .badArgument [])) ∧
        (∀ (c : Channel) (mode : Mode) (polarity : Polarity), b.toNat = c.toNat →
          m.toNat = (match mode with
            | .off => 0
            | .edge => 1
            | .time => 2) →
          p.toNat = (match polarity with
            | .rising => 0
            | .falling => 1) →
          f.toNat ≤ 15 → (w0 ≠ 0 ∨ w1 ≠ 0) →
          out = .next
            (State.answered
              { s with
                config :=
                  { s.config with
                    staged :=
                      { s.config.staged with
                        channels := s.config.staged.channels.set c
                          { mode := mode, polarity := polarity, filter := f.toNat, weight := w0.toNat + 256 * w1.toNat
                            threshold := t0.toNat + 256 * t1.toNat + 65536 * t2.toNat + 16777216 * t3.toNat } } } }
              rest 0x22 tag .ok [])))) ∧
    (∀ i0 i1 g y d0 d1 : Byte, AtHead s 0x23 tag [i0, i1, g, y, d0, d1] rest →
      let out := exec (.stageGlobals tag [i0, i1, g, y, d0, d1]) s
      let interval := i0.toNat + 256 * i1.toNat
      let idle := d0.toNat + 256 * d1.toNat
      (s.service.session = .closed → out = .next (s.answered rest 0x23 tag .needsService [])) ∧
      (∀ n, s.service.session = .opened n →
        ((3600 < interval ∨ 1 < g.toNat ∨ 1 < y.toNat ∨ idle < 10 ∨ 600 < idle) →
          out = .next (s.answered rest 0x23 tag .badArgument [])) ∧
        (interval ≤ 3600 → g.toNat ≤ 1 → y.toNat ≤ 1 → 10 ≤ idle → idle ≤ 600 →
          out = .next
            (State.answered
              { s with
                config :=
                  { s.config with
                    staged :=
                      { s.config.staged with
                        globals :=
                          { commitInterval := interval, tariffSource := if g = 0 then .host else .lines
                            commitOnTariff := y == 1, idleTimeout := idle } } } }
              rest 0x23 tag .ok []))))
end

