-- ==== Sys2Proof/Laws/Data.lean ====
section
/-! SUPPORT. What the small tables read back (one value for each channel, tariff, ring sector, notice kind), and the laws of
byte order and byte fields. -/

namespace Sys2Proof

namespace PerChannel

variable {α : Type}

@[simp] theorem get_set_self (v : PerChannel α) (c : Channel) (a : α) : (v.set c a).get c = a := by cases c <;> rfl

theorem get_set_ne (v : PerChannel α) {c d : Channel} (a : α) (h : d ≠ c) : (v.set c a).get d = v.get d := by
  cases c <;> cases d <;> first | rfl | exact absurd rfl h

theorem get_set (v : PerChannel α) (c d : Channel) (a : α) : (v.set c a).get d = if d = c then a else v.get d := by
  cases c <;> cases d <;> rfl

@[simp] theorem get_all (a : α) (c : Channel) : (all a).get c = a := by cases c <;> rfl

@[simp] theorem get_ofFn (f : Channel → α) (c : Channel) : (ofFn f).get c = f c := by cases c <;> rfl

theorem ext_get {v w : PerChannel α} (h : ∀ c, v.get c = w.get c) : v = w := by
  have h0 := h .ch0; have h1 := h .ch1; have h2 := h .ch2; have h3 := h .ch3
  have h4 := h .ch4; have h5 := h .ch5; have h6 := h .ch6; have h7 := h .ch7
  cases v; cases w
  simp only [get] at h0 h1 h2 h3 h4 h5 h6 h7
  subst h0 h1 h2 h3 h4 h5 h6 h7
  rfl

@[simp] theorem set_set (v : PerChannel α) (c : Channel) (a b : α) : (v.set c a).set c b = v.set c b := by
  cases c <;> rfl

@[simp] theorem set_get (v : PerChannel α) (c : Channel) : v.set c (v.get c) = v := by cases c <;> rfl

end PerChannel

namespace PerTariff

variable {α : Type}

@[simp] theorem get_set_self (v : PerTariff α) (t : Tariff) (a : α) : (v.set t a).get t = a := by cases t <;> rfl

theorem get_set (v : PerTariff α) (t u : Tariff) (a : α) : (v.set t a).get u = if u = t then a else v.get u := by
  cases t <;> cases u <;> rfl

@[simp] theorem set_get (v : PerTariff α) (t : Tariff) : v.set t (v.get t) = v := by cases t <;> rfl

end PerTariff

namespace Channel

theorem mem_all (c : Channel) : c ∈ all := by cases c <;> decide

theorem toNat_lt (c : Channel) : c.toNat < 8 := by cases c <;> decide

@[simp] theorem ofNat?_toNat (c : Channel) : ofNat? c.toNat = some c := by cases c <;> rfl

end Channel

namespace Machine

namespace PerRing

variable {α : Type}

@[simp] theorem get_set_self (v : PerRing α) (r : RingSector) (a : α) : (v.set r a).get r = a := by cases r <;> rfl

theorem get_set (v : PerRing α) (r q : RingSector) (a : α) : (v.set r a).get q = if q = r then a else v.get q := by
  cases r <;> cases q <;> rfl

@[simp] theorem get_all (a : α) (r : RingSector) : (all a).get r = a := by cases r <;> rfl

@[simp] theorem get_ofFn (f : RingSector → α) (r : RingSector) : (ofFn f).get r = f r := by cases r <;> rfl

end PerRing

namespace RingSector

theorem mem_all (r : RingSector) : r ∈ all := by cases r <;> decide

theorem toNat_bounds (r : RingSector) : 2 ≤ r.toNat ∧ r.toNat ≤ 15 := by cases r <;> decide

end RingSector

namespace Sector

theorem toNat_lt (k : Sector) : k.toNat < 16 := by
  cases k with
  | config x => cases x <;> decide
  | ring r => have := r.toNat_bounds; simp only [toNat]; omega

end Sector

namespace NoticeTable

@[simp] theorem set_set (t : NoticeTable) (k : NoticeKind) (r q : NoticeRecord) : (t.set k r).set k q = t.set k q := by
  cases k <;> rfl

@[simp] theorem get_set_self (t : NoticeTable) (k : NoticeKind) (r : NoticeRecord) : (t.set k r).get k = r := by
  cases k <;> rfl

theorem get_set (t : NoticeTable) (k j : NoticeKind) (r : NoticeRecord) :
    (t.set k r).get j = if j = k then r else t.get j := by
  cases k <;> cases j <;> rfl

end NoticeTable

/-! ## Byte order -/

@[simp] theorem leBytes_length (n v : Nat) : (leBytes n v).length = n := by
  induction n generalizing v with
  | zero => rfl
  | succ n ih => simp [leBytes, ih]

/-- Bytes written least significant first read back as the number, less what does not fit. -/
theorem leNat_leBytes (n v : Nat) : leNat (leBytes n v) = v % 256 ^ n := by
  induction n generalizing v with
  | zero => simp [leBytes, leNat, Nat.mod_one]
  | succ n ih =>
    have h : leNat (leBytes (n + 1) v) = v % 256 + 256 * (v / 256 % 256 ^ n) := by
      rw [← ih]; rfl
    rw [h, Nat.pow_succ, Nat.mul_comm (256 ^ n) 256, Nat.mod_mul]

theorem leNat_lt (bs : List Byte) : leNat bs < 256 ^ bs.length := by
  induction bs with
  | nil => simp [leNat]
  | cons b bs ih =>
    have := b.isLt
    simp only [leNat, List.length_cons, Nat.pow_succ]
    omega

/-- A field that stands behind others, read from its own offset. -/
theorem field_append_right (xs ys : List Byte) (off n : Nat) (h : xs.length ≤ off) :
    field (xs ++ ys) off n = field ys (off - xs.length) n := by
  unfold field slice
  rw [List.drop_append, List.drop_eq_nil_of_le h, List.nil_append]

/-- A field that ends before what follows. -/
theorem field_append_left (xs ys : List Byte) (off n : Nat) (h : off + n ≤ xs.length) :
    field (xs ++ ys) off n = field xs off n := by
  unfold field slice
  rw [List.drop_append_of_le_length (by omega), List.take_append_of_le_length (by simp; omega)]

/-- A number's own bytes, read as a field. -/
theorem field_leBytes (n v : Nat) (ys : List Byte) : field (leBytes n v ++ ys) 0 n = v % 256 ^ n := by
  rw [field_append_left _ _ _ _ (by simp)]
  unfold field slice
  rw [List.drop_zero, List.take_of_length_le (by simp), leNat_leBytes]

theorem slice_append_right (xs ys : List Byte) (off n : Nat) (h : xs.length ≤ off) :
    slice (xs ++ ys) off n = slice ys (off - xs.length) n := by
  unfold slice
  rw [List.drop_append, List.drop_eq_nil_of_le h, List.nil_append]

theorem slice_append_left (xs ys : List Byte) (off n : Nat) (h : off + n ≤ xs.length) :
    slice (xs ++ ys) off n = slice xs off n := by
  unfold slice
  rw [List.drop_append_of_le_length (by omega), List.take_append_of_le_length (by simp; omega)]

@[simp] theorem crcBytes_length (bs : List Byte) : (crcBytes bs).length = 2 := leBytes_length _ _

@[simp] theorem slice_zero_self (bs : List Byte) {n : Nat} (h : bs.length = n) : slice bs 0 n = bs := by
  simp [slice, ← h]

end Machine

end Sys2Proof
end

