-- ==== Sys2Proof/Laws/State.lean ====
section
/-! SUPPORT. What each setter of State reads back: one lemma per field per update. -/

namespace Sys2Proof.Machine.State

@[simp] theorem setPending_pending (s : State) (x : List Instr) : (s.setPending x).pending = x := rfl
@[simp] theorem setPending_supply (s : State) (x : List Instr) : (s.setPending x).supply = s.supply := rfl
@[simp] theorem setPending_pins (s : State) (x : List Instr) : (s.setPending x).pins = s.pins := rfl
@[simp] theorem setPending_timebase (s : State) (x : List Instr) : (s.setPending x).timebase = s.timebase := rfl
@[simp] theorem setPending_capture (s : State) (x : List Instr) : (s.setPending x).capture = s.capture := rfl
@[simp] theorem setPending_accum (s : State) (x : List Instr) : (s.setPending x).accum = s.accum := rfl
@[simp] theorem setPending_sched (s : State) (x : List Instr) : (s.setPending x).sched = s.sched := rfl
@[simp] theorem setPending_store (s : State) (x : List Instr) : (s.setPending x).store = s.store := rfl
@[simp] theorem setPending_array (s : State) (x : List Instr) : (s.setPending x).array = s.array := rfl
@[simp] theorem setPending_engine (s : State) (x : List Instr) : (s.setPending x).engine = s.engine := rfl
@[simp] theorem setPending_config (s : State) (x : List Instr) : (s.setPending x).config = s.config := rfl
@[simp] theorem setPending_service (s : State) (x : List Instr) : (s.setPending x).service = s.service := rfl
@[simp] theorem setPending_power (s : State) (x : List Instr) : (s.setPending x).power = s.power := rfl
@[simp] theorem setPending_notices (s : State) (x : List Instr) : (s.setPending x).notices = s.notices := rfl
@[simp] theorem setPending_link (s : State) (x : List Instr) : (s.setPending x).link = s.link := rfl
@[simp] theorem setPending_scan (s : State) (x : List Instr) : (s.setPending x).scan = s.scan := rfl
@[simp] theorem setPending_free (s : State) (x : List Instr) : (s.setPending x).free = s.free := rfl

@[simp] theorem setSupply_pending (s : State) (x : Supply) : (s.setSupply x).pending = s.pending := rfl
@[simp] theorem setSupply_supply (s : State) (x : Supply) : (s.setSupply x).supply = x := rfl
@[simp] theorem setSupply_pins (s : State) (x : Supply) : (s.setSupply x).pins = s.pins := rfl
@[simp] theorem setSupply_timebase (s : State) (x : Supply) : (s.setSupply x).timebase = s.timebase := rfl
@[simp] theorem setSupply_capture (s : State) (x : Supply) : (s.setSupply x).capture = s.capture := rfl
@[simp] theorem setSupply_accum (s : State) (x : Supply) : (s.setSupply x).accum = s.accum := rfl
@[simp] theorem setSupply_sched (s : State) (x : Supply) : (s.setSupply x).sched = s.sched := rfl
@[simp] theorem setSupply_store (s : State) (x : Supply) : (s.setSupply x).store = s.store := rfl
@[simp] theorem setSupply_array (s : State) (x : Supply) : (s.setSupply x).array = s.array := rfl
@[simp] theorem setSupply_engine (s : State) (x : Supply) : (s.setSupply x).engine = s.engine := rfl
@[simp] theorem setSupply_config (s : State) (x : Supply) : (s.setSupply x).config = s.config := rfl
@[simp] theorem setSupply_service (s : State) (x : Supply) : (s.setSupply x).service = s.service := rfl
@[simp] theorem setSupply_power (s : State) (x : Supply) : (s.setSupply x).power = s.power := rfl
@[simp] theorem setSupply_notices (s : State) (x : Supply) : (s.setSupply x).notices = s.notices := rfl
@[simp] theorem setSupply_link (s : State) (x : Supply) : (s.setSupply x).link = s.link := rfl
@[simp] theorem setSupply_scan (s : State) (x : Supply) : (s.setSupply x).scan = s.scan := rfl
@[simp] theorem setSupply_free (s : State) (x : Supply) : (s.setSupply x).free = s.free := rfl

@[simp] theorem setPins_pending (s : State) (x : Pins) : (s.setPins x).pending = s.pending := rfl
@[simp] theorem setPins_supply (s : State) (x : Pins) : (s.setPins x).supply = s.supply := rfl
@[simp] theorem setPins_pins (s : State) (x : Pins) : (s.setPins x).pins = x := rfl
@[simp] theorem setPins_timebase (s : State) (x : Pins) : (s.setPins x).timebase = s.timebase := rfl
@[simp] theorem setPins_capture (s : State) (x : Pins) : (s.setPins x).capture = s.capture := rfl
@[simp] theorem setPins_accum (s : State) (x : Pins) : (s.setPins x).accum = s.accum := rfl
@[simp] theorem setPins_sched (s : State) (x : Pins) : (s.setPins x).sched = s.sched := rfl
@[simp] theorem setPins_store (s : State) (x : Pins) : (s.setPins x).store = s.store := rfl
@[simp] theorem setPins_array (s : State) (x : Pins) : (s.setPins x).array = s.array := rfl
@[simp] theorem setPins_engine (s : State) (x : Pins) : (s.setPins x).engine = s.engine := rfl
@[simp] theorem setPins_config (s : State) (x : Pins) : (s.setPins x).config = s.config := rfl
@[simp] theorem setPins_service (s : State) (x : Pins) : (s.setPins x).service = s.service := rfl
@[simp] theorem setPins_power (s : State) (x : Pins) : (s.setPins x).power = s.power := rfl
@[simp] theorem setPins_notices (s : State) (x : Pins) : (s.setPins x).notices = s.notices := rfl
@[simp] theorem setPins_link (s : State) (x : Pins) : (s.setPins x).link = s.link := rfl
@[simp] theorem setPins_scan (s : State) (x : Pins) : (s.setPins x).scan = s.scan := rfl
@[simp] theorem setPins_free (s : State) (x : Pins) : (s.setPins x).free = s.free := rfl

@[simp] theorem setTimebase_pending (s : State) (x : Timebase) : (s.setTimebase x).pending = s.pending := rfl
@[simp] theorem setTimebase_supply (s : State) (x : Timebase) : (s.setTimebase x).supply = s.supply := rfl
@[simp] theorem setTimebase_pins (s : State) (x : Timebase) : (s.setTimebase x).pins = s.pins := rfl
@[simp] theorem setTimebase_timebase (s : State) (x : Timebase) : (s.setTimebase x).timebase = x := rfl
@[simp] theorem setTimebase_capture (s : State) (x : Timebase) : (s.setTimebase x).capture = s.capture := rfl
@[simp] theorem setTimebase_accum (s : State) (x : Timebase) : (s.setTimebase x).accum = s.accum := rfl
@[simp] theorem setTimebase_sched (s : State) (x : Timebase) : (s.setTimebase x).sched = s.sched := rfl
@[simp] theorem setTimebase_store (s : State) (x : Timebase) : (s.setTimebase x).store = s.store := rfl
@[simp] theorem setTimebase_array (s : State) (x : Timebase) : (s.setTimebase x).array = s.array := rfl
@[simp] theorem setTimebase_engine (s : State) (x : Timebase) : (s.setTimebase x).engine = s.engine := rfl
@[simp] theorem setTimebase_config (s : State) (x : Timebase) : (s.setTimebase x).config = s.config := rfl
@[simp] theorem setTimebase_service (s : State) (x : Timebase) : (s.setTimebase x).service = s.service := rfl
@[simp] theorem setTimebase_power (s : State) (x : Timebase) : (s.setTimebase x).power = s.power := rfl
@[simp] theorem setTimebase_notices (s : State) (x : Timebase) : (s.setTimebase x).notices = s.notices := rfl
@[simp] theorem setTimebase_link (s : State) (x : Timebase) : (s.setTimebase x).link = s.link := rfl
@[simp] theorem setTimebase_scan (s : State) (x : Timebase) : (s.setTimebase x).scan = s.scan := rfl
@[simp] theorem setTimebase_free (s : State) (x : Timebase) : (s.setTimebase x).free = s.free := rfl

@[simp] theorem setCapture_pending (s : State) (x : Capture) : (s.setCapture x).pending = s.pending := rfl
@[simp] theorem setCapture_supply (s : State) (x : Capture) : (s.setCapture x).supply = s.supply := rfl
@[simp] theorem setCapture_pins (s : State) (x : Capture) : (s.setCapture x).pins = s.pins := rfl
@[simp] theorem setCapture_timebase (s : State) (x : Capture) : (s.setCapture x).timebase = s.timebase := rfl
@[simp] theorem setCapture_capture (s : State) (x : Capture) : (s.setCapture x).capture = x := rfl
@[simp] theorem setCapture_accum (s : State) (x : Capture) : (s.setCapture x).accum = s.accum := rfl
@[simp] theorem setCapture_sched (s : State) (x : Capture) : (s.setCapture x).sched = s.sched := rfl
@[simp] theorem setCapture_store (s : State) (x : Capture) : (s.setCapture x).store = s.store := rfl
@[simp] theorem setCapture_array (s : State) (x : Capture) : (s.setCapture x).array = s.array := rfl
@[simp] theorem setCapture_engine (s : State) (x : Capture) : (s.setCapture x).engine = s.engine := rfl
@[simp] theorem setCapture_config (s : State) (x : Capture) : (s.setCapture x).config = s.config := rfl
@[simp] theorem setCapture_service (s : State) (x : Capture) : (s.setCapture x).service = s.service := rfl
@[simp] theorem setCapture_power (s : State) (x : Capture) : (s.setCapture x).power = s.power := rfl
@[simp] theorem setCapture_notices (s : State) (x : Capture) : (s.setCapture x).notices = s.notices := rfl
@[simp] theorem setCapture_link (s : State) (x : Capture) : (s.setCapture x).link = s.link := rfl
@[simp] theorem setCapture_scan (s : State) (x : Capture) : (s.setCapture x).scan = s.scan := rfl
@[simp] theorem setCapture_free (s : State) (x : Capture) : (s.setCapture x).free = s.free := rfl

@[simp] theorem setAccum_pending (s : State) (x : Accumulation) : (s.setAccum x).pending = s.pending := rfl
@[simp] theorem setAccum_supply (s : State) (x : Accumulation) : (s.setAccum x).supply = s.supply := rfl
@[simp] theorem setAccum_pins (s : State) (x : Accumulation) : (s.setAccum x).pins = s.pins := rfl
@[simp] theorem setAccum_timebase (s : State) (x : Accumulation) : (s.setAccum x).timebase = s.timebase := rfl
@[simp] theorem setAccum_capture (s : State) (x : Accumulation) : (s.setAccum x).capture = s.capture := rfl
@[simp] theorem setAccum_accum (s : State) (x : Accumulation) : (s.setAccum x).accum = x := rfl
@[simp] theorem setAccum_sched (s : State) (x : Accumulation) : (s.setAccum x).sched = s.sched := rfl
@[simp] theorem setAccum_store (s : State) (x : Accumulation) : (s.setAccum x).store = s.store := rfl
@[simp] theorem setAccum_array (s : State) (x : Accumulation) : (s.setAccum x).array = s.array := rfl
@[simp] theorem setAccum_engine (s : State) (x : Accumulation) : (s.setAccum x).engine = s.engine := rfl
@[simp] theorem setAccum_config (s : State) (x : Accumulation) : (s.setAccum x).config = s.config := rfl
@[simp] theorem setAccum_service (s : State) (x : Accumulation) : (s.setAccum x).service = s.service := rfl
@[simp] theorem setAccum_power (s : State) (x : Accumulation) : (s.setAccum x).power = s.power := rfl
@[simp] theorem setAccum_notices (s : State) (x : Accumulation) : (s.setAccum x).notices = s.notices := rfl
@[simp] theorem setAccum_link (s : State) (x : Accumulation) : (s.setAccum x).link = s.link := rfl
@[simp] theorem setAccum_scan (s : State) (x : Accumulation) : (s.setAccum x).scan = s.scan := rfl
@[simp] theorem setAccum_free (s : State) (x : Accumulation) : (s.setAccum x).free = s.free := rfl

@[simp] theorem setSched_pending (s : State) (x : Scheduler) : (s.setSched x).pending = s.pending := rfl
@[simp] theorem setSched_supply (s : State) (x : Scheduler) : (s.setSched x).supply = s.supply := rfl
@[simp] theorem setSched_pins (s : State) (x : Scheduler) : (s.setSched x).pins = s.pins := rfl
@[simp] theorem setSched_timebase (s : State) (x : Scheduler) : (s.setSched x).timebase = s.timebase := rfl
@[simp] theorem setSched_capture (s : State) (x : Scheduler) : (s.setSched x).capture = s.capture := rfl
@[simp] theorem setSched_accum (s : State) (x : Scheduler) : (s.setSched x).accum = s.accum := rfl
@[simp] theorem setSched_sched (s : State) (x : Scheduler) : (s.setSched x).sched = x := rfl
@[simp] theorem setSched_store (s : State) (x : Scheduler) : (s.setSched x).store = s.store := rfl
@[simp] theorem setSched_array (s : State) (x : Scheduler) : (s.setSched x).array = s.array := rfl
@[simp] theorem setSched_engine (s : State) (x : Scheduler) : (s.setSched x).engine = s.engine := rfl
@[simp] theorem setSched_config (s : State) (x : Scheduler) : (s.setSched x).config = s.config := rfl
@[simp] theorem setSched_service (s : State) (x : Scheduler) : (s.setSched x).service = s.service := rfl
@[simp] theorem setSched_power (s : State) (x : Scheduler) : (s.setSched x).power = s.power := rfl
@[simp] theorem setSched_notices (s : State) (x : Scheduler) : (s.setSched x).notices = s.notices := rfl
@[simp] theorem setSched_link (s : State) (x : Scheduler) : (s.setSched x).link = s.link := rfl
@[simp] theorem setSched_scan (s : State) (x : Scheduler) : (s.setSched x).scan = s.scan := rfl
@[simp] theorem setSched_free (s : State) (x : Scheduler) : (s.setSched x).free = s.free := rfl

@[simp] theorem setStore_pending (s : State) (x : Store) : (s.setStore x).pending = s.pending := rfl
@[simp] theorem setStore_supply (s : State) (x : Store) : (s.setStore x).supply = s.supply := rfl
@[simp] theorem setStore_pins (s : State) (x : Store) : (s.setStore x).pins = s.pins := rfl
@[simp] theorem setStore_timebase (s : State) (x : Store) : (s.setStore x).timebase = s.timebase := rfl
@[simp] theorem setStore_capture (s : State) (x : Store) : (s.setStore x).capture = s.capture := rfl
@[simp] theorem setStore_accum (s : State) (x : Store) : (s.setStore x).accum = s.accum := rfl
@[simp] theorem setStore_sched (s : State) (x : Store) : (s.setStore x).sched = s.sched := rfl
@[simp] theorem setStore_store (s : State) (x : Store) : (s.setStore x).store = x := rfl
@[simp] theorem setStore_array (s : State) (x : Store) : (s.setStore x).array = s.array := rfl
@[simp] theorem setStore_engine (s : State) (x : Store) : (s.setStore x).engine = s.engine := rfl
@[simp] theorem setStore_config (s : State) (x : Store) : (s.setStore x).config = s.config := rfl
@[simp] theorem setStore_service (s : State) (x : Store) : (s.setStore x).service = s.service := rfl
@[simp] theorem setStore_power (s : State) (x : Store) : (s.setStore x).power = s.power := rfl
@[simp] theorem setStore_notices (s : State) (x : Store) : (s.setStore x).notices = s.notices := rfl
@[simp] theorem setStore_link (s : State) (x : Store) : (s.setStore x).link = s.link := rfl
@[simp] theorem setStore_scan (s : State) (x : Store) : (s.setStore x).scan = s.scan := rfl
@[simp] theorem setStore_free (s : State) (x : Store) : (s.setStore x).free = s.free := rfl

@[simp] theorem setArray_pending (s : State) (x : Memory) : (s.setArray x).pending = s.pending := rfl
@[simp] theorem setArray_supply (s : State) (x : Memory) : (s.setArray x).supply = s.supply := rfl
@[simp] theorem setArray_pins (s : State) (x : Memory) : (s.setArray x).pins = s.pins := rfl
@[simp] theorem setArray_timebase (s : State) (x : Memory) : (s.setArray x).timebase = s.timebase := rfl
@[simp] theorem setArray_capture (s : State) (x : Memory) : (s.setArray x).capture = s.capture := rfl
@[simp] theorem setArray_accum (s : State) (x : Memory) : (s.setArray x).accum = s.accum := rfl
@[simp] theorem setArray_sched (s : State) (x : Memory) : (s.setArray x).sched = s.sched := rfl
@[simp] theorem setArray_store (s : State) (x : Memory) : (s.setArray x).store = s.store := rfl
@[simp] theorem setArray_array (s : State) (x : Memory) : (s.setArray x).array = x := rfl
@[simp] theorem setArray_engine (s : State) (x : Memory) : (s.setArray x).engine = s.engine := rfl
@[simp] theorem setArray_config (s : State) (x : Memory) : (s.setArray x).config = s.config := rfl
@[simp] theorem setArray_service (s : State) (x : Memory) : (s.setArray x).service = s.service := rfl
@[simp] theorem setArray_power (s : State) (x : Memory) : (s.setArray x).power = s.power := rfl
@[simp] theorem setArray_notices (s : State) (x : Memory) : (s.setArray x).notices = s.notices := rfl
@[simp] theorem setArray_link (s : State) (x : Memory) : (s.setArray x).link = s.link := rfl
@[simp] theorem setArray_scan (s : State) (x : Memory) : (s.setArray x).scan = s.scan := rfl
@[simp] theorem setArray_free (s : State) (x : Memory) : (s.setArray x).free = s.free := rfl

@[simp] theorem setEngine_pending (s : State) (x : Engine) : (s.setEngine x).pending = s.pending := rfl
@[simp] theorem setEngine_supply (s : State) (x : Engine) : (s.setEngine x).supply = s.supply := rfl
@[simp] theorem setEngine_pins (s : State) (x : Engine) : (s.setEngine x).pins = s.pins := rfl
@[simp] theorem setEngine_timebase (s : State) (x : Engine) : (s.setEngine x).timebase = s.timebase := rfl
@[simp] theorem setEngine_capture (s : State) (x : Engine) : (s.setEngine x).capture = s.capture := rfl
@[simp] theorem setEngine_accum (s : State) (x : Engine) : (s.setEngine x).accum = s.accum := rfl
@[simp] theorem setEngine_sched (s : State) (x : Engine) : (s.setEngine x).sched = s.sched := rfl
@[simp] theorem setEngine_store (s : State) (x : Engine) : (s.setEngine x).store = s.store := rfl
@[simp] theorem setEngine_array (s : State) (x : Engine) : (s.setEngine x).array = s.array := rfl
@[simp] theorem setEngine_engine (s : State) (x : Engine) : (s.setEngine x).engine = x := rfl
@[simp] theorem setEngine_config (s : State) (x : Engine) : (s.setEngine x).config = s.config := rfl
@[simp] theorem setEngine_service (s : State) (x : Engine) : (s.setEngine x).service = s.service := rfl
@[simp] theorem setEngine_power (s : State) (x : Engine) : (s.setEngine x).power = s.power := rfl
@[simp] theorem setEngine_notices (s : State) (x : Engine) : (s.setEngine x).notices = s.notices := rfl
@[simp] theorem setEngine_link (s : State) (x : Engine) : (s.setEngine x).link = s.link := rfl
@[simp] theorem setEngine_scan (s : State) (x : Engine) : (s.setEngine x).scan = s.scan := rfl
@[simp] theorem setEngine_free (s : State) (x : Engine) : (s.setEngine x).free = s.free := rfl

@[simp] theorem setConfig_pending (s : State) (x : ConfigUnit) : (s.setConfig x).pending = s.pending := rfl
@[simp] theorem setConfig_supply (s : State) (x : ConfigUnit) : (s.setConfig x).supply = s.supply := rfl
@[simp] theorem setConfig_pins (s : State) (x : ConfigUnit) : (s.setConfig x).pins = s.pins := rfl
@[simp] theorem setConfig_timebase (s : State) (x : ConfigUnit) : (s.setConfig x).timebase = s.timebase := rfl
@[simp] theorem setConfig_capture (s : State) (x : ConfigUnit) : (s.setConfig x).capture = s.capture := rfl
@[simp] theorem setConfig_accum (s : State) (x : ConfigUnit) : (s.setConfig x).accum = s.accum := rfl
@[simp] theorem setConfig_sched (s : State) (x : ConfigUnit) : (s.setConfig x).sched = s.sched := rfl
@[simp] theorem setConfig_store (s : State) (x : ConfigUnit) : (s.setConfig x).store = s.store := rfl
@[simp] theorem setConfig_array (s : State) (x : ConfigUnit) : (s.setConfig x).array = s.array := rfl
@[simp] theorem setConfig_engine (s : State) (x : ConfigUnit) : (s.setConfig x).engine = s.engine := rfl
@[simp] theorem setConfig_config (s : State) (x : ConfigUnit) : (s.setConfig x).config = x := rfl
@[simp] theorem setConfig_service (s : State) (x : ConfigUnit) : (s.setConfig x).service = s.service := rfl
@[simp] theorem setConfig_power (s : State) (x : ConfigUnit) : (s.setConfig x).power = s.power := rfl
@[simp] theorem setConfig_notices (s : State) (x : ConfigUnit) : (s.setConfig x).notices = s.notices := rfl
@[simp] theorem setConfig_link (s : State) (x : ConfigUnit) : (s.setConfig x).link = s.link := rfl
@[simp] theorem setConfig_scan (s : State) (x : ConfigUnit) : (s.setConfig x).scan = s.scan := rfl
@[simp] theorem setConfig_free (s : State) (x : ConfigUnit) : (s.setConfig x).free = s.free := rfl

@[simp] theorem setService_pending (s : State) (x : Service) : (s.setService x).pending = s.pending := rfl
@[simp] theorem setService_supply (s : State) (x : Service) : (s.setService x).supply = s.supply := rfl
@[simp] theorem setService_pins (s : State) (x : Service) : (s.setService x).pins = s.pins := rfl
@[simp] theorem setService_timebase (s : State) (x : Service) : (s.setService x).timebase = s.timebase := rfl
@[simp] theorem setService_capture (s : State) (x : Service) : (s.setService x).capture = s.capture := rfl
@[simp] theorem setService_accum (s : State) (x : Service) : (s.setService x).accum = s.accum := rfl
@[simp] theorem setService_sched (s : State) (x : Service) : (s.setService x).sched = s.sched := rfl
@[simp] theorem setService_store (s : State) (x : Service) : (s.setService x).store = s.store := rfl
@[simp] theorem setService_array (s : State) (x : Service) : (s.setService x).array = s.array := rfl
@[simp] theorem setService_engine (s : State) (x : Service) : (s.setService x).engine = s.engine := rfl
@[simp] theorem setService_config (s : State) (x : Service) : (s.setService x).config = s.config := rfl
@[simp] theorem setService_service (s : State) (x : Service) : (s.setService x).service = x := rfl
@[simp] theorem setService_power (s : State) (x : Service) : (s.setService x).power = s.power := rfl
@[simp] theorem setService_notices (s : State) (x : Service) : (s.setService x).notices = s.notices := rfl
@[simp] theorem setService_link (s : State) (x : Service) : (s.setService x).link = s.link := rfl
@[simp] theorem setService_scan (s : State) (x : Service) : (s.setService x).scan = s.scan := rfl
@[simp] theorem setService_free (s : State) (x : Service) : (s.setService x).free = s.free := rfl

@[simp] theorem setPower_pending (s : State) (x : Power) : (s.setPower x).pending = s.pending := rfl
@[simp] theorem setPower_supply (s : State) (x : Power) : (s.setPower x).supply = s.supply := rfl
@[simp] theorem setPower_pins (s : State) (x : Power) : (s.setPower x).pins = s.pins := rfl
@[simp] theorem setPower_timebase (s : State) (x : Power) : (s.setPower x).timebase = s.timebase := rfl
@[simp] theorem setPower_capture (s : State) (x : Power) : (s.setPower x).capture = s.capture := rfl
@[simp] theorem setPower_accum (s : State) (x : Power) : (s.setPower x).accum = s.accum := rfl
@[simp] theorem setPower_sched (s : State) (x : Power) : (s.setPower x).sched = s.sched := rfl
@[simp] theorem setPower_store (s : State) (x : Power) : (s.setPower x).store = s.store := rfl
@[simp] theorem setPower_array (s : State) (x : Power) : (s.setPower x).array = s.array := rfl
@[simp] theorem setPower_engine (s : State) (x : Power) : (s.setPower x).engine = s.engine := rfl
@[simp] theorem setPower_config (s : State) (x : Power) : (s.setPower x).config = s.config := rfl
@[simp] theorem setPower_service (s : State) (x : Power) : (s.setPower x).service = s.service := rfl
@[simp] theorem setPower_power (s : State) (x : Power) : (s.setPower x).power = x := rfl
@[simp] theorem setPower_notices (s : State) (x : Power) : (s.setPower x).notices = s.notices := rfl
@[simp] theorem setPower_link (s : State) (x : Power) : (s.setPower x).link = s.link := rfl
@[simp] theorem setPower_scan (s : State) (x : Power) : (s.setPower x).scan = s.scan := rfl
@[simp] theorem setPower_free (s : State) (x : Power) : (s.setPower x).free = s.free := rfl

@[simp] theorem setNotices_pending (s : State) (x : NoticeUnit) : (s.setNotices x).pending = s.pending := rfl
@[simp] theorem setNotices_supply (s : State) (x : NoticeUnit) : (s.setNotices x).supply = s.supply := rfl
@[simp] theorem setNotices_pins (s : State) (x : NoticeUnit) : (s.setNotices x).pins = s.pins := rfl
@[simp] theorem setNotices_timebase (s : State) (x : NoticeUnit) : (s.setNotices x).timebase = s.timebase := rfl
@[simp] theorem setNotices_capture (s : State) (x : NoticeUnit) : (s.setNotices x).capture = s.capture := rfl
@[simp] theorem setNotices_accum (s : State) (x : NoticeUnit) : (s.setNotices x).accum = s.accum := rfl
@[simp] theorem setNotices_sched (s : State) (x : NoticeUnit) : (s.setNotices x).sched = s.sched := rfl
@[simp] theorem setNotices_store (s : State) (x : NoticeUnit) : (s.setNotices x).store = s.store := rfl
@[simp] theorem setNotices_array (s : State) (x : NoticeUnit) : (s.setNotices x).array = s.array := rfl
@[simp] theorem setNotices_engine (s : State) (x : NoticeUnit) : (s.setNotices x).engine = s.engine := rfl
@[simp] theorem setNotices_config (s : State) (x : NoticeUnit) : (s.setNotices x).config = s.config := rfl
@[simp] theorem setNotices_service (s : State) (x : NoticeUnit) : (s.setNotices x).service = s.service := rfl
@[simp] theorem setNotices_power (s : State) (x : NoticeUnit) : (s.setNotices x).power = s.power := rfl
@[simp] theorem setNotices_notices (s : State) (x : NoticeUnit) : (s.setNotices x).notices = x := rfl
@[simp] theorem setNotices_link (s : State) (x : NoticeUnit) : (s.setNotices x).link = s.link := rfl
@[simp] theorem setNotices_scan (s : State) (x : NoticeUnit) : (s.setNotices x).scan = s.scan := rfl
@[simp] theorem setNotices_free (s : State) (x : NoticeUnit) : (s.setNotices x).free = s.free := rfl

@[simp] theorem setLink_pending (s : State) (x : HostLink) : (s.setLink x).pending = s.pending := rfl
@[simp] theorem setLink_supply (s : State) (x : HostLink) : (s.setLink x).supply = s.supply := rfl
@[simp] theorem setLink_pins (s : State) (x : HostLink) : (s.setLink x).pins = s.pins := rfl
@[simp] theorem setLink_timebase (s : State) (x : HostLink) : (s.setLink x).timebase = s.timebase := rfl
@[simp] theorem setLink_capture (s : State) (x : HostLink) : (s.setLink x).capture = s.capture := rfl
@[simp] theorem setLink_accum (s : State) (x : HostLink) : (s.setLink x).accum = s.accum := rfl
@[simp] theorem setLink_sched (s : State) (x : HostLink) : (s.setLink x).sched = s.sched := rfl
@[simp] theorem setLink_store (s : State) (x : HostLink) : (s.setLink x).store = s.store := rfl
@[simp] theorem setLink_array (s : State) (x : HostLink) : (s.setLink x).array = s.array := rfl
@[simp] theorem setLink_engine (s : State) (x : HostLink) : (s.setLink x).engine = s.engine := rfl
@[simp] theorem setLink_config (s : State) (x : HostLink) : (s.setLink x).config = s.config := rfl
@[simp] theorem setLink_service (s : State) (x : HostLink) : (s.setLink x).service = s.service := rfl
@[simp] theorem setLink_power (s : State) (x : HostLink) : (s.setLink x).power = s.power := rfl
@[simp] theorem setLink_notices (s : State) (x : HostLink) : (s.setLink x).notices = s.notices := rfl
@[simp] theorem setLink_link (s : State) (x : HostLink) : (s.setLink x).link = x := rfl
@[simp] theorem setLink_scan (s : State) (x : HostLink) : (s.setLink x).scan = s.scan := rfl
@[simp] theorem setLink_free (s : State) (x : HostLink) : (s.setLink x).free = s.free := rfl

@[simp] theorem setScan_pending (s : State) (x : Scan) : (s.setScan x).pending = s.pending := rfl
@[simp] theorem setScan_supply (s : State) (x : Scan) : (s.setScan x).supply = s.supply := rfl
@[simp] theorem setScan_pins (s : State) (x : Scan) : (s.setScan x).pins = s.pins := rfl
@[simp] theorem setScan_timebase (s : State) (x : Scan) : (s.setScan x).timebase = s.timebase := rfl
@[simp] theorem setScan_capture (s : State) (x : Scan) : (s.setScan x).capture = s.capture := rfl
@[simp] theorem setScan_accum (s : State) (x : Scan) : (s.setScan x).accum = s.accum := rfl
@[simp] theorem setScan_sched (s : State) (x : Scan) : (s.setScan x).sched = s.sched := rfl
@[simp] theorem setScan_store (s : State) (x : Scan) : (s.setScan x).store = s.store := rfl
@[simp] theorem setScan_array (s : State) (x : Scan) : (s.setScan x).array = s.array := rfl
@[simp] theorem setScan_engine (s : State) (x : Scan) : (s.setScan x).engine = s.engine := rfl
@[simp] theorem setScan_config (s : State) (x : Scan) : (s.setScan x).config = s.config := rfl
@[simp] theorem setScan_service (s : State) (x : Scan) : (s.setScan x).service = s.service := rfl
@[simp] theorem setScan_power (s : State) (x : Scan) : (s.setScan x).power = s.power := rfl
@[simp] theorem setScan_notices (s : State) (x : Scan) : (s.setScan x).notices = s.notices := rfl
@[simp] theorem setScan_link (s : State) (x : Scan) : (s.setScan x).link = s.link := rfl
@[simp] theorem setScan_scan (s : State) (x : Scan) : (s.setScan x).scan = x := rfl
@[simp] theorem setScan_free (s : State) (x : Scan) : (s.setScan x).free = s.free := rfl

@[simp] theorem setFree_pending (s : State) (x : Nat) : (s.setFree x).pending = s.pending := rfl
@[simp] theorem setFree_supply (s : State) (x : Nat) : (s.setFree x).supply = s.supply := rfl
@[simp] theorem setFree_pins (s : State) (x : Nat) : (s.setFree x).pins = s.pins := rfl
@[simp] theorem setFree_timebase (s : State) (x : Nat) : (s.setFree x).timebase = s.timebase := rfl
@[simp] theorem setFree_capture (s : State) (x : Nat) : (s.setFree x).capture = s.capture := rfl
@[simp] theorem setFree_accum (s : State) (x : Nat) : (s.setFree x).accum = s.accum := rfl
@[simp] theorem setFree_sched (s : State) (x : Nat) : (s.setFree x).sched = s.sched := rfl
@[simp] theorem setFree_store (s : State) (x : Nat) : (s.setFree x).store = s.store := rfl
@[simp] theorem setFree_array (s : State) (x : Nat) : (s.setFree x).array = s.array := rfl
@[simp] theorem setFree_engine (s : State) (x : Nat) : (s.setFree x).engine = s.engine := rfl
@[simp] theorem setFree_config (s : State) (x : Nat) : (s.setFree x).config = s.config := rfl
@[simp] theorem setFree_service (s : State) (x : Nat) : (s.setFree x).service = s.service := rfl
@[simp] theorem setFree_power (s : State) (x : Nat) : (s.setFree x).power = s.power := rfl
@[simp] theorem setFree_notices (s : State) (x : Nat) : (s.setFree x).notices = s.notices := rfl
@[simp] theorem setFree_link (s : State) (x : Nat) : (s.setFree x).link = s.link := rfl
@[simp] theorem setFree_scan (s : State) (x : Nat) : (s.setFree x).scan = s.scan := rfl
@[simp] theorem setFree_free (s : State) (x : Nat) : (s.setFree x).free = x := rfl

end Sys2Proof.Machine.State
end

