-- ==== Sys2Proof/Laws/Frames.lean ====
section
/-! SUPPORT. Which blocks each shared operation can change: one lemma per operation, in the form that composes. If `t` differs
from `s` in the blocks `bs` at most, then so does the operation's result. -/

set_option linter.unusedTactic false
set_option linter.unreachableTactic false

namespace Sys2Proof.Machine

namespace Changes

variable {bs cs : List Block} {r s t u : State}

theorem refl (bs : List Block) (s : State) : Changes bs s s := ⟨by intro b _; cases b <;> rfl⟩

theorem mono (h : Changes bs s t) (hs : bs ⊆ cs) : Changes cs s t := ⟨fun b hb => h.same b fun hb' => hb (hs hb')⟩

theorem trans (h : Changes bs s t) (h' : Changes bs t u) : Changes bs s u := by
  constructor
  intro b hb
  have h1 := h.same b hb
  have h2 := h'.same b hb
  cases b <;> exact Eq.trans h2 h1

/-- An operation that changes `bs` at most, run after changes in `cs`. -/
theorem after (h : Changes bs t u) (hs : bs ⊆ cs) (h' : Changes cs s t) : Changes cs s u := h'.trans (h.mono hs)

theorem ite {p : Prop} [Decidable p] (h : Changes bs s t) (h' : Changes bs s u) : Changes bs s (if p then t else u) := by
  split <;> assumption

theorem foldl {α : Type} {f : State → α → State} (hf : ∀ x a, Changes bs x (f x a)) :
    ∀ (l : List α) (s : State), Changes bs s (l.foldl f s)
  | [], s => refl bs s
  | a :: l, s => (hf s a).trans (foldl hf l (f s a))

/-- What a drain can change. -/
def drainBlocks : List Block := [.capture, .accum, .notices, .sched, .link]

/-- What a job that writes a record can change, but for its success. -/
def jobBlocks : List Block := [.store, .notices, .free, .link, .power, .engine]

/-- What a choice of the arbiter in RUN can change. -/
def choiceBlocks : List Block := [.sched, .capture, .accum, .notices, .store, .free, .link, .power, .engine]

/-- What the entry into START can change. -/
def startBlocks : List Block := [.timebase, .capture, .accum, .sched, .store, .engine, .config, .service, .power, .notices, .link, .scan]

/-- What the arbiter can change in any device state. -/
def anyBlocks : List Block := [.timebase, .capture, .accum, .sched, .store, .engine, .config, .service, .power, .notices, .link, .scan, .free]

theorem pending_eq (h : Changes bs s t) (hb : Block.pending ∉ bs := by decide) : t.pending = s.pending := h.same .pending hb
theorem supply_eq (h : Changes bs s t) (hb : Block.supply ∉ bs := by decide) : t.supply = s.supply := h.same .supply hb
theorem pins_eq (h : Changes bs s t) (hb : Block.pins ∉ bs := by decide) : t.pins = s.pins := h.same .pins hb
theorem timebase_eq (h : Changes bs s t) (hb : Block.timebase ∉ bs := by decide) : t.timebase = s.timebase := h.same .timebase hb
theorem capture_eq (h : Changes bs s t) (hb : Block.capture ∉ bs := by decide) : t.capture = s.capture := h.same .capture hb
theorem accum_eq (h : Changes bs s t) (hb : Block.accum ∉ bs := by decide) : t.accum = s.accum := h.same .accum hb
theorem sched_eq (h : Changes bs s t) (hb : Block.sched ∉ bs := by decide) : t.sched = s.sched := h.same .sched hb
theorem store_eq (h : Changes bs s t) (hb : Block.store ∉ bs := by decide) : t.store = s.store := h.same .store hb
theorem array_eq (h : Changes bs s t) (hb : Block.array ∉ bs := by decide) : t.array = s.array := h.same .array hb
theorem engine_eq (h : Changes bs s t) (hb : Block.engine ∉ bs := by decide) : t.engine = s.engine := h.same .engine hb
theorem config_eq (h : Changes bs s t) (hb : Block.config ∉ bs := by decide) : t.config = s.config := h.same .config hb
theorem service_eq (h : Changes bs s t) (hb : Block.service ∉ bs := by decide) : t.service = s.service := h.same .service hb
theorem power_eq (h : Changes bs s t) (hb : Block.power ∉ bs := by decide) : t.power = s.power := h.same .power hb
theorem notices_eq (h : Changes bs s t) (hb : Block.notices ∉ bs := by decide) : t.notices = s.notices := h.same .notices hb
theorem link_eq (h : Changes bs s t) (hb : Block.link ∉ bs := by decide) : t.link = s.link := h.same .link hb
theorem scan_eq (h : Changes bs s t) (hb : Block.scan ∉ bs := by decide) : t.scan = s.scan := h.same .scan hb
theorem free_eq (h : Changes bs s t) (hb : Block.free ∉ bs := by decide) : t.free = s.free := h.same .free hb

end Changes

namespace State

variable {bs : List Block} {r : State} (s : State)

theorem setPending_changes (x : List Instr) : Changes [.pending] s (s.setPending x) := by
  constructor
  intro b hb
  cases b <;> first | rfl | simp at hb

theorem setSupply_changes (x : Supply) : Changes [.supply] s (s.setSupply x) := by
  constructor
  intro b hb
  cases b <;> first | rfl | simp at hb

theorem setPins_changes (x : Pins) : Changes [.pins] s (s.setPins x) := by
  constructor
  intro b hb
  cases b <;> first | rfl | simp at hb

theorem setTimebase_changes (x : Timebase) : Changes [.timebase] s (s.setTimebase x) := by
  constructor
  intro b hb
  cases b <;> first | rfl | simp at hb

theorem setCapture_changes (x : Capture) : Changes [.capture] s (s.setCapture x) := by
  constructor
  intro b hb
  cases b <;> first | rfl | simp at hb

theorem setAccum_changes (x : Accumulation) : Changes [.accum] s (s.setAccum x) := by
  constructor
  intro b hb
  cases b <;> first | rfl | simp at hb

theorem setSched_changes (x : Scheduler) : Changes [.sched] s (s.setSched x) := by
  constructor
  intro b hb
  cases b <;> first | rfl | simp at hb

theorem setStore_changes (x : Store) : Changes [.store] s (s.setStore x) := by
  constructor
  intro b hb
  cases b <;> first | rfl | simp at hb

theorem setArray_changes (x : Memory) : Changes [.array] s (s.setArray x) := by
  constructor
  intro b hb
  cases b <;> first | rfl | simp at hb

theorem setEngine_changes (x : Engine) : Changes [.engine] s (s.setEngine x) := by
  constructor
  intro b hb
  cases b <;> first | rfl | simp at hb

theorem setConfig_changes (x : ConfigUnit) : Changes [.config] s (s.setConfig x) := by
  constructor
  intro b hb
  cases b <;> first | rfl | simp at hb

theorem setService_changes (x : Service) : Changes [.service] s (s.setService x) := by
  constructor
  intro b hb
  cases b <;> first | rfl | simp at hb

theorem setPower_changes (x : Power) : Changes [.power] s (s.setPower x) := by
  constructor
  intro b hb
  cases b <;> first | rfl | simp at hb

theorem setNotices_changes (x : NoticeUnit) : Changes [.notices] s (s.setNotices x) := by
  constructor
  intro b hb
  cases b <;> first | rfl | simp at hb

theorem setLink_changes (x : HostLink) : Changes [.link] s (s.setLink x) := by
  constructor
  intro b hb
  cases b <;> first | rfl | simp at hb

theorem setScan_changes (x : Scan) : Changes [.scan] s (s.setScan x) := by
  constructor
  intro b hb
  cases b <;> first | rfl | simp at hb

theorem setFree_changes (x : Nat) : Changes [.free] s (s.setFree x) := by
  constructor
  intro b hb
  cases b <;> first | rfl | simp at hb

theorem setOp_changes (o : Option Operation) : Changes [.store] s (s.setOp o) := by
  unfold State.setOp
  try dsimp only
  repeat' (first | with_reducible exact Changes.refl _ _ | with_reducible refine (setStore_changes ..).after ?_ ?_ | decide | split)

theorem beginOp_changes (t : Task) (k : Sector) (n off : Nat) (bs : List Byte) : Changes [.store] s (s.beginOp t k n off bs) := by
  unfold State.beginOp
  try dsimp only
  repeat' (first | with_reducible exact Changes.refl _ _ | with_reducible refine (setOp_changes ..).after ?_ ?_ | decide | split)

theorem endProgram_changes (op : Operation) (o : ProgramOutcome) : Changes [.array, .store, .free] s (s.endProgram op o) := by
  unfold State.endProgram
  try dsimp only
  repeat' (first | with_reducible exact Changes.refl _ _ | with_reducible refine (setOp_changes ..).after ?_ ?_ | with_reducible refine (setArray_changes ..).after ?_ ?_ | with_reducible refine (setFree_changes ..).after ?_ ?_ | decide | split)

theorem scramble_changes (k : Sector) (f : List Byte → List Byte) : Changes [.array, .free] s (s.scramble k f) := by
  unfold State.scramble
  try dsimp only
  repeat' (first | with_reducible exact Changes.refl _ _ | with_reducible refine (setArray_changes ..).after ?_ ?_ | with_reducible refine (setFree_changes ..).after ?_ ?_ | decide | split)

theorem endErase_changes (op : Operation) (o : EraseOutcome) : Changes [.array, .store, .free] s (s.endErase op o) := by
  unfold State.endErase
  try dsimp only
  repeat' (first | with_reducible refine (scramble_changes ..).after ?_ ?_ | with_reducible exact Changes.refl _ _ | with_reducible refine (setOp_changes ..).after ?_ ?_ | with_reducible refine (setArray_changes ..).after ?_ ?_ | with_reducible refine (setFree_changes ..).after ?_ ?_ | decide | split)

theorem tear_changes : Changes [.array, .store, .free] s (s.tear) := by
  unfold State.tear
  try dsimp only
  repeat' (first | with_reducible refine (scramble_changes ..).after ?_ ?_ | with_reducible exact Changes.refl _ _ | with_reducible refine (setOp_changes ..).after ?_ ?_ | with_reducible refine (setArray_changes ..).after ?_ ?_ | with_reducible refine (setFree_changes ..).after ?_ ?_ | decide | split)

theorem raise_changes (k : NoticeKind) (d : NoticeDetail) : Changes [.notices] s (s.raise k d) := by
  unfold State.raise
  try dsimp only
  repeat' (first | with_reducible exact Changes.refl _ _ | with_reducible refine (setNotices_changes ..).after ?_ ?_ | decide | split)

theorem takeNotice_changes (k : NoticeKind) : Changes [.notices] s (s.takeNotice k) := by
  unfold State.takeNotice
  try dsimp only
  repeat' (first | with_reducible exact Changes.refl _ _ | with_reducible refine (setNotices_changes ..).after ?_ ?_ | decide | split)

theorem startTransmitter_changes : Changes [.link] s (s.startTransmitter) := by
  unfold State.startTransmitter
  try dsimp only
  repeat' (first | with_reducible exact Changes.refl _ _ | with_reducible refine (setLink_changes ..).after ?_ ?_ | decide | split)

theorem enqueueReply_changes (r : Reply) : Changes [.link] s (s.enqueueReply r) := by
  unfold State.enqueueReply
  try dsimp only
  repeat' (first | with_reducible exact Changes.refl _ _ | with_reducible refine (startTransmitter_changes ..).after ?_ ?_ | with_reducible refine (setLink_changes ..).after ?_ ?_ | decide | split)

theorem answer_changes (k t : Byte) (a : Answer) : Changes [.link] s (s.answer k t a) := by
  unfold State.answer
  try dsimp only
  repeat' (first | with_reducible exact Changes.refl _ _ | with_reducible refine (enqueueReply_changes ..).after ?_ ?_ | decide | split)

theorem acceptJob_changes (w : JobSlot) (t : Byte) (j : JobState) : Changes [.link] s (s.acceptJob w t j) := by
  unfold State.acceptJob
  try dsimp only
  repeat' (first | with_reducible exact Changes.refl _ _ | with_reducible refine (setLink_changes ..).after ?_ ?_ | decide | split)

theorem setJobState_changes (w : JobSlot) (j : JobState) : Changes [.link] s (s.setJobState w j) := by
  unfold State.setJobState
  try dsimp only
  repeat' (first | with_reducible exact Changes.refl _ _ | with_reducible refine (setLink_changes ..).after ?_ ?_ | decide | split)

theorem endJob_changes (w : JobSlot) (a : Answer) : Changes [.link] s (s.endJob w a) := by
  unfold State.endJob
  try dsimp only
  repeat' (first | with_reducible exact Changes.refl _ _ | with_reducible refine (answer_changes ..).after ?_ ?_ | with_reducible refine (setLink_changes ..).after ?_ ?_ | decide | split)

theorem cancelAll_changes : Changes [.link] s (s.cancelAll) := by
  unfold State.cancelAll
  try dsimp only
  repeat' (first | with_reducible exact Changes.refl _ _ | with_reducible refine (startTransmitter_changes ..).after ?_ ?_ | with_reducible refine (setLink_changes ..).after ?_ ?_ | decide | split)

theorem discard_changes (x : DiscardReason) : Changes [.link, .notices] s (s.discard x) := by
  unfold State.discard
  try dsimp only
  repeat' (first | with_reducible exact Changes.refl _ _ | with_reducible refine (raise_changes ..).after ?_ ?_ | with_reducible refine (setLink_changes ..).after ?_ ?_ | decide | split)

theorem restartIdle_changes : Changes [.service] s (s.restartIdle) := by
  unfold State.restartIdle
  try dsimp only
  repeat' (first | with_reducible exact Changes.refl _ _ | with_reducible refine (setService_changes ..).after ?_ ?_ | decide | split)

theorem admitRequest_changes (x : Request) : Changes [.link, .notices, .service] s (s.admitRequest x) := by
  unfold State.admitRequest
  try dsimp only
  repeat' (first | with_reducible exact Changes.refl _ _ | with_reducible refine (discard_changes ..).after ?_ ?_ | with_reducible refine (restartIdle_changes ..).after ?_ ?_ | with_reducible refine (setLink_changes ..).after ?_ ?_ | decide | split)

theorem setReceiver_changes (x : Receiver) (g : Option Nat) : Changes [.link] s (s.setReceiver x g) := by
  unfold State.setReceiver
  try dsimp only
  repeat' (first | with_reducible exact Changes.refl _ _ | with_reducible refine (setLink_changes ..).after ?_ ?_ | decide | split)

theorem completeFrame_changes (n : Nat) (bs : List Byte) (x y : Byte) : Changes [.link, .notices, .service] s (s.completeFrame n bs x y) := by
  unfold State.completeFrame
  try dsimp only
  repeat' (first | with_reducible exact Changes.refl _ _ | with_reducible refine (discard_changes ..).after ?_ ?_ | with_reducible refine (admitRequest_changes ..).after ?_ ?_ | with_reducible refine (setReceiver_changes ..).after ?_ ?_ | decide | split)

theorem takeCharacter_changes (b : Byte) (e : Bool) : Changes [.link, .notices, .service] s (s.takeCharacter b e) := by
  unfold State.takeCharacter
  try dsimp only
  repeat' (first | with_reducible exact Changes.refl _ _ | with_reducible refine (discard_changes ..).after ?_ ?_ | with_reducible refine (completeFrame_changes ..).after ?_ ?_ | with_reducible refine (setReceiver_changes ..).after ?_ ?_ | decide | split)

theorem gapExpiry_changes : Changes [.link, .notices] s (s.gapExpiry) := by
  unfold State.gapExpiry
  try dsimp only
  repeat' (first | with_reducible exact Changes.refl _ _ | with_reducible refine (discard_changes ..).after ?_ ?_ | with_reducible refine (setReceiver_changes ..).after ?_ ?_ | decide | split)

theorem gapTick_changes : Changes [.link, .notices] s (s.gapTick) := by
  unfold State.gapTick
  try dsimp only
  repeat' (first | with_reducible exact Changes.refl _ _ | with_reducible refine (gapExpiry_changes ..).after ?_ ?_ | with_reducible refine (setLink_changes ..).after ?_ ?_ | decide | split)

theorem tell_changes (c : Channel) (o : Resolution) (w : JobSlot) : Changes [.link] s (s.tell c o w) := by
  unfold State.tell
  try dsimp only
  repeat' (first | with_reducible exact Changes.refl _ _ | with_reducible refine (endJob_changes ..).after ?_ ?_ | with_reducible refine (setJobState_changes ..).after ?_ ?_ | decide | split)

theorem tellAll_changes (c : Channel) (o : Resolution) (ws : List JobSlot) : Changes [.link] s (s.tellAll c o ws) :=
  Changes.foldl (fun x w => tell_changes x c o w) ws s

theorem setQueue_changes (q : List QueueEntry) : Changes [.sched] s (s.setQueue q) := by
  unfold State.setQueue
  try dsimp only
  repeat' (first | with_reducible exact Changes.refl _ _ | with_reducible refine (setSched_changes ..).after ?_ ?_ | decide | split)

theorem resolveEach_changes : ∀ (q : List QueueEntry) (s : State),
    Changes [.sched, .link] s (q.foldl (fun s e => s.tellAll e.channel .exhausted e.waiters) s)
  | [], s => Changes.refl _ s
  | e :: q, s =>
    ((tellAll_changes s e.channel .exhausted e.waiters).mono (by decide)).trans (resolveEach_changes q _)

theorem resolveExhausted_changes : Changes [.sched, .link] s s.resolveExhausted := by
  unfold State.resolveExhausted
  dsimp only
  refine Changes.trans ((setSched_changes s { s.sched with queue := [], headWaiting := false }).mono (by decide)) ?_
  exact resolveEach_changes _ _

theorem deliverCause_changes (c : Channel) (k : Cause) (w : Option JobSlot) : Changes [.sched, .link] s (s.deliverCause c k w) := by
  unfold State.deliverCause
  try dsimp only
  repeat' (first | with_reducible exact Changes.refl _ _ | with_reducible refine (resolveExhausted_changes ..).after ?_ ?_ | with_reducible refine (setQueue_changes ..).after ?_ ?_ | decide | split)

theorem deliverAll_changes (cs : List Channel) (k : Cause) (w : Option JobSlot) :
    Changes [.sched, .link] s (s.deliverAll cs k w) :=
  Changes.foldl (fun x c => deliverCause_changes x c k w) cs s

theorem intervalExpiry_changes : Changes [.sched, .link] s (s.intervalExpiry) := by
  unfold State.intervalExpiry
  try dsimp only
  repeat' (first | with_reducible exact Changes.refl _ _ | with_reducible refine (deliverAll_changes ..).after ?_ ?_ | with_reducible refine (setSched_changes ..).after ?_ ?_ | decide | split)

theorem setCaptureChannel_changes (c : Channel) (k : CaptureChannel) : Changes [.capture] s (s.setCaptureChannel c k) := by
  unfold State.setCaptureChannel
  try dsimp only
  repeat' (first | with_reducible exact Changes.refl _ _ | with_reducible refine (setCapture_changes ..).after ?_ ?_ | decide | split)

theorem setAccount_changes (c : Channel) (a : Account) : Changes [.accum] s (s.setAccount c a) := by
  unfold State.setAccount
  try dsimp only
  repeat' (first | with_reducible exact Changes.refl _ _ | with_reducible refine (setAccum_changes ..).after ?_ ?_ | decide | split)

theorem addCount_changes (c : Channel) : Changes [.capture, .notices] s (s.addCount c) := by
  unfold State.addCount
  try dsimp only
  repeat' (first | with_reducible exact Changes.refl _ _ | with_reducible refine (raise_changes ..).after ?_ ?_ | with_reducible refine (setCaptureChannel_changes ..).after ?_ ?_ | decide | split)

theorem changeFiltered_changes (c : Channel) : Changes [.capture, .notices] s (s.changeFiltered c) := by
  unfold State.changeFiltered
  try dsimp only
  repeat' (first | with_reducible exact Changes.refl _ _ | with_reducible refine (addCount_changes ..).after ?_ ?_ | with_reducible refine (setCaptureChannel_changes ..).after ?_ ?_ | decide | split)

theorem filterTick_changes (c : Channel) : Changes [.capture, .notices] s (s.filterTick c) := by
  unfold State.filterTick
  try dsimp only
  repeat' (first | with_reducible exact Changes.refl _ _ | with_reducible refine (changeFiltered_changes ..).after ?_ ?_ | with_reducible refine (setCaptureChannel_changes ..).after ?_ ?_ | decide | split)

theorem timeTest_changes (c : Channel) : Changes [.capture, .notices] s (s.timeTest c) := by
  unfold State.timeTest
  try dsimp only
  repeat' (first | with_reducible exact Changes.refl _ _ | with_reducible refine (addCount_changes ..).after ?_ ?_ | decide | split)

theorem captureTick_changes : Changes [.capture, .notices] s s.captureTick :=
  Changes.ite (Changes.foldl (fun x c => (filterTick_changes x c).trans (timeTest_changes _ c)) _ s) (Changes.refl _ _)

theorem captureLive_changes : Changes [.capture] s (s.captureLive) := by
  unfold State.captureLive
  try dsimp only
  repeat' (first | with_reducible exact Changes.refl _ _ | with_reducible refine (setCapture_changes ..).after ?_ ?_ | decide | split)

theorem captureFreeze_changes : Changes [.capture] s (s.captureFreeze) := by
  unfold State.captureFreeze
  try dsimp only
  repeat' (first | with_reducible exact Changes.refl _ _ | with_reducible refine (setCapture_changes ..).after ?_ ?_ | decide | split)

theorem takePending_changes (c : Channel) : Changes [.capture] s (s.takePending c) := by
  unfold State.takePending
  try dsimp only
  repeat' (first | with_reducible exact Changes.refl _ _ | with_reducible refine (setCaptureChannel_changes ..).after ?_ ?_ | decide | split)

theorem drainCounts_changes (c : Channel) : Changes [.capture, .accum, .notices] s (s.drainCounts c) := by
  unfold State.drainCounts
  try dsimp only
  repeat' (first | with_reducible exact Changes.refl _ _ | with_reducible refine (raise_changes ..).after ?_ ?_ | with_reducible refine (setAccount_changes ..).after ?_ ?_ | with_reducible refine (takePending_changes ..).after ?_ ?_ | decide | split)

theorem thresholdStep_changes (c : Channel) : Changes [.sched, .link] s (s.thresholdStep c) := by
  unfold State.thresholdStep
  try dsimp only
  repeat' (first | with_reducible exact Changes.refl _ _ | with_reducible refine (deliverCause_changes ..).after ?_ ?_ | decide | split)

theorem drain_changes (c : Channel) : Changes Changes.drainBlocks s (s.drain c) := by
  unfold State.drain
  try dsimp only
  repeat' (first | with_reducible exact Changes.refl _ _ | with_reducible refine (thresholdStep_changes ..).after ?_ ?_ | with_reducible refine (drainCounts_changes ..).after ?_ ?_ | decide | split)

theorem drainAll_changes : Changes Changes.drainBlocks s s.drainAll := Changes.foldl (fun x c => drain_changes x c) _ s

theorem drainCountsAll_changes : Changes [.capture, .accum, .notices] s s.drainCountsAll :=
  Changes.foldl (fun x c => drainCounts_changes x c) _ s

theorem drainRound_changes : Changes Changes.drainBlocks s (s.drainRound) := by
  unfold State.drainRound
  try dsimp only
  repeat' (first | with_reducible exact Changes.refl _ _ | with_reducible refine (drainAll_changes ..).after ?_ ?_ | decide | split)

theorem tariffSwitch_changes (t : Tariff) : Changes Changes.drainBlocks s (s.tariffSwitch t) := by
  unfold State.tariffSwitch
  try dsimp only
  repeat' (first | with_reducible exact Changes.refl _ _ | with_reducible refine (deliverAll_changes ..).after ?_ ?_ | with_reducible refine (drainAll_changes ..).after ?_ ?_ | with_reducible refine (setAccum_changes ..).after ?_ ?_ | decide | split)

theorem followLines_changes : Changes Changes.drainBlocks s (s.followLines) := by
  unfold State.followLines
  try dsimp only
  repeat' (first | with_reducible exact Changes.refl _ _ | with_reducible refine (tariffSwitch_changes ..).after ?_ ?_ | decide | split)

theorem tselChange_changes : Changes Changes.drainBlocks s (s.tselChange) := by
  unfold State.tselChange
  try dsimp only
  repeat' (first | with_reducible exact Changes.refl _ _ | with_reducible refine (followLines_changes ..).after ?_ ?_ | with_reducible refine (setAccum_changes ..).after ?_ ?_ | decide | split)

theorem tselTick_changes : Changes Changes.drainBlocks s (s.tselTick) := by
  unfold State.tselTick
  try dsimp only
  repeat' (first | with_reducible exact Changes.refl _ _ | with_reducible refine (tselChange_changes ..).after ?_ ?_ | with_reducible refine (setAccum_changes ..).after ?_ ?_ | decide | split)

theorem loadTotals_changes (c : Channel) (b : PerTariff Bucket) : Changes [.capture, .accum, .notices] s (s.loadTotals c b) := by
  unfold State.loadTotals
  try dsimp only
  repeat' (first | with_reducible exact Changes.refl _ _ | with_reducible refine (drainCounts_changes ..).after ?_ ?_ | with_reducible refine (setAccount_changes ..).after ?_ ?_ | with_reducible refine (setCaptureChannel_changes ..).after ?_ ?_ | decide | split)

theorem loadEffect_changes (c : Channel) (b : PerTariff Bucket) (w : JobSlot) : Changes Changes.drainBlocks s (s.loadEffect c b w) := by
  unfold State.loadEffect
  try dsimp only
  repeat' (first | with_reducible exact Changes.refl _ _ | with_reducible refine (deliverCause_changes ..).after ?_ ?_ | with_reducible refine (loadTotals_changes ..).after ?_ ?_ | decide | split)

theorem setEntry_changes (x : RingSector) (e : SectorEntry) : Changes [.store] s (s.setEntry x e) := by
  unfold State.setEntry
  try dsimp only
  repeat' (first | with_reducible exact Changes.refl _ _ | with_reducible refine (setStore_changes ..).after ?_ ?_ | decide | split)

theorem setSectorState_changes (x : RingSector) (e : SectorState) : Changes [.store] s (s.setSectorState x e) := by
  unfold State.setSectorState
  try dsimp only
  repeat' (first | with_reducible exact Changes.refl _ _ | with_reducible refine (setEntry_changes ..).after ?_ ?_ | decide | split)

theorem setHolder_changes (h : Option Hold) : Changes [.store] s (s.setHolder h) := by
  unfold State.setHolder
  try dsimp only
  repeat' (first | with_reducible exact Changes.refl _ _ | with_reducible refine (setStore_changes ..).after ?_ ?_ | decide | split)

theorem setPhase_changes (p : Phase) : Changes [.engine] s (s.setPhase p) := by
  unfold State.setPhase
  try dsimp only
  repeat' (first | with_reducible exact Changes.refl _ _ | with_reducible refine (setEngine_changes ..).after ?_ ?_ | decide | split)

theorem storeFault_changes (k : Sector) : Changes [.notices] s (s.storeFault k) := by
  unfold State.storeFault
  try dsimp only
  repeat' (first | with_reducible exact Changes.refl _ _ | with_reducible refine (raise_changes ..).after ?_ ?_ | decide | split)

theorem commitFails_changes (j : CommitJob) (f : Option RingSector) : Changes [.store, .notices, .free, .link, .power] s (s.commitFails j f) := by
  unfold State.commitFails
  try dsimp only
  repeat' (first | with_reducible exact Changes.refl _ _ | with_reducible refine (setPower_changes ..).after ?_ ?_ | with_reducible refine (tellAll_changes ..).after ?_ ?_ | with_reducible refine (storeFault_changes ..).after ?_ ?_ | with_reducible refine (raise_changes ..).after ?_ ?_ | with_reducible refine (setFree_changes ..).after ?_ ?_ | with_reducible refine (setHolder_changes ..).after ?_ ?_ | decide | split)

theorem copyFails_changes (t : RingSector) (f : Option RingSector) : Changes [.store, .notices, .engine] s (s.copyFails t f) := by
  unfold State.copyFails
  try dsimp only
  repeat' (first | with_reducible exact Changes.refl _ _ | with_reducible refine (setEngine_changes ..).after ?_ ?_ | with_reducible refine (storeFault_changes ..).after ?_ ?_ | with_reducible refine (setHolder_changes ..).after ?_ ?_ | decide | split)

theorem jobFails_changes (h : Hold) : Changes Changes.jobBlocks s (s.jobFails h) := by
  unfold State.jobFails
  try dsimp only
  repeat' (first | with_reducible exact Changes.refl _ _ | with_reducible refine (commitFails_changes ..).after ?_ ?_ | with_reducible refine (copyFails_changes ..).after ?_ ?_ | decide | split)

theorem beginRecord_changes (h : Hold) (x : RingSector) (e n : Nat) : Changes [.store] s (s.beginRecord h x e n) := by
  unfold State.beginRecord
  try dsimp only
  repeat' (first | with_reducible exact Changes.refl _ _ | with_reducible refine (beginOp_changes ..).after ?_ ?_ | with_reducible refine (setHolder_changes ..).after ?_ ?_ | with_reducible refine (setStore_changes ..).after ?_ ?_ | with_reducible refine (setSectorState_changes ..).after ?_ ?_ | decide | split)

theorem fillFullHead_changes : Changes [.store] s (s.fillFullHead) := by
  unfold State.fillFullHead
  try dsimp only
  repeat' (first | with_reducible exact Changes.refl _ _ | with_reducible refine (setSectorState_changes ..).after ?_ ?_ | decide | split)

theorem openHead_changes (h : Hold) : Changes Changes.jobBlocks s (s.openHead h) := by
  unfold State.openHead
  try dsimp only
  repeat' (first | with_reducible exact Changes.refl _ _ | with_reducible refine (jobFails_changes ..).after ?_ ?_ | with_reducible refine (beginOp_changes ..).after ?_ ?_ | with_reducible refine (setStore_changes ..).after ?_ ?_ | with_reducible refine (fillFullHead_changes ..).after ?_ ?_ | decide | split)

theorem takeSlot_changes (h : Hold) : Changes Changes.jobBlocks s (s.takeSlot h) := by
  unfold State.takeSlot
  try dsimp only
  repeat' (first | with_reducible exact Changes.refl _ _ | with_reducible refine (openHead_changes ..).after ?_ ?_ | with_reducible refine (beginRecord_changes ..).after ?_ ?_ | decide | split)

theorem nextAttempt_changes (h : Hold) : Changes Changes.jobBlocks s (s.nextAttempt h) := by
  unfold State.nextAttempt
  try dsimp only
  repeat' (first | with_reducible exact Changes.refl _ _ | with_reducible refine (jobFails_changes ..).after ?_ ?_ | with_reducible refine (takeSlot_changes ..).after ?_ ?_ | decide | split)

theorem attemptFailed_changes (h : Hold) (x : RingSector) : Changes Changes.jobBlocks s (s.attemptFailed h x) := by
  unfold State.attemptFailed
  try dsimp only
  repeat' (first | with_reducible exact Changes.refl _ _ | with_reducible refine (jobFails_changes ..).after ?_ ?_ | with_reducible refine (nextAttempt_changes ..).after ?_ ?_ | with_reducible refine (setHolder_changes ..).after ?_ ?_ | decide | split)

theorem moveMapRecord_changes (a : Option RingSector) (b : RingSector) : Changes [.store] s (s.moveMapRecord a b) := by
  unfold State.moveMapRecord
  try dsimp only
  repeat' (first | with_reducible exact Changes.refl _ _ | with_reducible refine (setEntry_changes ..).after ?_ ?_ | decide | split)

theorem setMapEntry_changes (c : Channel) (e : MapEntry) : Changes [.store] s (s.setMapEntry c e) := by
  unfold State.setMapEntry
  try dsimp only
  repeat' (first | with_reducible exact Changes.refl _ _ | with_reducible refine (setStore_changes ..).after ?_ ?_ | decide | split)

theorem designate_changes (c : Channel) (d : Designation) : Changes [.store] s (s.designate c d) := by
  unfold State.designate
  try dsimp only
  repeat' (first | with_reducible exact Changes.refl _ _ | with_reducible refine (moveMapRecord_changes ..).after ?_ ?_ | with_reducible refine (setMapEntry_changes ..).after ?_ ?_ | decide | split)

theorem commitSucceeds_changes (j : CommitJob) (d : Designation) : Changes [.store, .accum, .link] s (s.commitSucceeds j d) := by
  unfold State.commitSucceeds
  try dsimp only
  repeat' (first | with_reducible exact Changes.refl _ _ | with_reducible refine (tellAll_changes ..).after ?_ ?_ | with_reducible refine (setAccount_changes ..).after ?_ ?_ | with_reducible refine (setMapEntry_changes ..).after ?_ ?_ | with_reducible refine (designate_changes ..).after ?_ ?_ | with_reducible refine (setHolder_changes ..).after ?_ ?_ | decide | split)

theorem copySucceeds_changes (j : CopyJob) (d : Designation) : Changes [.store, .engine] s (s.copySucceeds j d) := by
  unfold State.copySucceeds
  try dsimp only
  repeat' (first | with_reducible exact Changes.refl _ _ | with_reducible refine (setPhase_changes ..).after ?_ ?_ | with_reducible refine (designate_changes ..).after ?_ ?_ | with_reducible refine (setHolder_changes ..).after ?_ ?_ | decide | split)

theorem jobSucceeds_changes (h : Hold) (l : Location) : Changes [.store, .accum, .link, .engine] s (s.jobSucceeds h l) := by
  unfold State.jobSucceeds
  try dsimp only
  repeat' (first | with_reducible exact Changes.refl _ _ | with_reducible refine (commitSucceeds_changes ..).after ?_ ?_ | with_reducible refine (copySucceeds_changes ..).after ?_ ?_ | decide | split)

theorem testExhausted_changes : Changes [.store, .notices, .sched, .link] s (s.testExhausted) := by
  unfold State.testExhausted
  try dsimp only
  repeat' (first | with_reducible exact Changes.refl _ _ | with_reducible refine (resolveExhausted_changes ..).after ?_ ?_ | with_reducible refine (raise_changes ..).after ?_ ?_ | with_reducible refine (setStore_changes ..).after ?_ ?_ | decide | split)

theorem startCommit_changes (e : QueueEntry) : Changes Changes.choiceBlocks s (s.startCommit e) := by
  unfold State.startCommit
  try dsimp only
  repeat' (first | with_reducible exact Changes.refl _ _ | with_reducible refine (nextAttempt_changes ..).after ?_ ?_ | with_reducible refine (tellAll_changes ..).after ?_ ?_ | with_reducible refine (setHolder_changes ..).after ?_ ?_ | with_reducible refine (drainCounts_changes ..).after ?_ ?_ | decide | split)

theorem beginMark_changes (t : RingSector) : Changes [.engine, .store] s (s.beginMark t) := by
  unfold State.beginMark
  try dsimp only
  repeat' (first | with_reducible exact Changes.refl _ _ | with_reducible refine (beginOp_changes ..).after ?_ ?_ | with_reducible refine (setPhase_changes ..).after ?_ ?_ | decide | split)

theorem beginErase_changes (t : RingSector) (n : Nat) : Changes [.engine, .store] s (s.beginErase t n) := by
  unfold State.beginErase
  try dsimp only
  repeat' (first | with_reducible exact Changes.refl _ _ | with_reducible refine (beginOp_changes ..).after ?_ ?_ | with_reducible refine (setPhase_changes ..).after ?_ ?_ | decide | split)

theorem beginCount_changes (t : RingSector) : Changes [.store] s (s.beginCount t) := by
  unfold State.beginCount
  try dsimp only
  repeat' (first | with_reducible exact Changes.refl _ _ | with_reducible refine (beginOp_changes ..).after ?_ ?_ | decide | split)

theorem examine_changes (t : RingSector) (n : Nat) : Changes [.engine, .store] s (s.examine t n) := by
  unfold State.examine
  try dsimp only
  repeat' (first | with_reducible exact Changes.refl _ _ | with_reducible refine (beginMark_changes ..).after ?_ ?_ | with_reducible refine (beginOp_changes ..).after ?_ ?_ | with_reducible refine (setHolder_changes ..).after ?_ ?_ | with_reducible refine (setPhase_changes ..).after ?_ ?_ | decide | split)

theorem engineStep_changes : Changes [.engine, .store] s (s.engineStep) := by
  unfold State.engineStep
  try dsimp only
  repeat' (first | with_reducible exact Changes.refl _ _ | with_reducible refine (beginErase_changes ..).after ?_ ?_ | with_reducible refine (examine_changes ..).after ?_ ?_ | with_reducible refine (beginMark_changes ..).after ?_ ?_ | with_reducible refine (beginCount_changes ..).after ?_ ?_ | decide | split)

theorem beginApplyStep_changes (w : JobSlot) (i : Configuration) (p : ApplyProgress) : Changes [.link, .store] s (s.beginApplyStep w i p) := by
  unfold State.beginApplyStep
  try dsimp only
  repeat' (first | with_reducible exact Changes.refl _ _ | with_reducible refine (beginOp_changes ..).after ?_ ?_ | with_reducible refine (setJobState_changes ..).after ?_ ?_ | decide | split)

theorem jobStep_changes (j : HostJob) : Changes [.link, .store] s (s.jobStep j) := by
  unfold State.jobStep
  try dsimp only
  repeat' (first | with_reducible exact Changes.refl _ _ | with_reducible refine (beginOp_changes ..).after ?_ ?_ | with_reducible refine (beginApplyStep_changes ..).after ?_ ?_ | with_reducible refine (endJob_changes ..).after ?_ ?_ | decide | split)

theorem compactIfReady_changes : Changes [.engine, .store] s (s.compactIfReady) := by
  unfold State.compactIfReady
  try dsimp only
  repeat' (first | with_reducible exact Changes.refl _ _ | with_reducible refine (engineStep_changes ..).after ?_ ?_ | decide | split)

theorem takeHead_changes : Changes Changes.choiceBlocks s (s.takeHead) := by
  unfold State.takeHead
  try dsimp only
  repeat' (first | with_reducible exact Changes.refl _ _ | with_reducible refine (startCommit_changes ..).after ?_ ?_ | with_reducible refine (compactIfReady_changes ..).after ?_ ?_ | with_reducible refine (setSched_changes ..).after ?_ ?_ | decide | split)

theorem chooseRun_changes : Changes Changes.choiceBlocks s (s.chooseRun) := by
  unfold State.chooseRun
  try dsimp only
  repeat' (first | with_reducible exact Changes.refl _ _ | with_reducible refine (engineStep_changes ..).after ?_ ?_ | with_reducible refine (jobStep_changes ..).after ?_ ?_ | with_reducible refine (takeHead_changes ..).after ?_ ?_ | decide | split)

theorem arbitrateRun_changes : ∀ (n : Nat) (s : State), Changes Changes.choiceBlocks s (arbitrateRun n s)
  | 0, s => Changes.refl _ s
  | n + 1, s => by
    unfold arbitrateRun
    split
    · exact (chooseRun_changes s).trans (arbitrateRun_changes n _)
    · exact Changes.refl _ _

theorem arbiterRun_changes : Changes Changes.choiceBlocks s s.arbiterRun := arbitrateRun_changes _ s

theorem closeSession_changes (x : Option CloseReason) : Changes [.service, .config, .notices] s (s.closeSession x) := by
  unfold State.closeSession
  try dsimp only
  repeat' (first | with_reducible exact Changes.refl _ _ | with_reducible refine (raise_changes ..).after ?_ ?_ | with_reducible refine (setConfig_changes ..).after ?_ ?_ | with_reducible refine (setService_changes ..).after ?_ ?_ | decide | split)

theorem svcChange_changes : Changes [.service, .config, .notices] s (s.svcChange) := by
  unfold State.svcChange
  try dsimp only
  repeat' (first | with_reducible exact Changes.refl _ _ | with_reducible refine (closeSession_changes ..).after ?_ ?_ | with_reducible refine (setService_changes ..).after ?_ ?_ | decide | split)

theorem svcTick_changes : Changes [.service, .config, .notices] s (s.svcTick) := by
  unfold State.svcTick
  try dsimp only
  repeat' (first | with_reducible exact Changes.refl _ _ | with_reducible refine (svcChange_changes ..).after ?_ ?_ | with_reducible refine (setService_changes ..).after ?_ ?_ | decide | split)

theorem takeLines_changes : Changes [.accum, .service, .power] s (s.takeLines) := by
  unfold State.takeLines
  try dsimp only
  repeat' (first | with_reducible exact Changes.refl _ _ | with_reducible refine (setPower_changes ..).after ?_ ?_ | with_reducible refine (setService_changes ..).after ?_ ?_ | with_reducible refine (setAccum_changes ..).after ?_ ?_ | decide | split)

theorem startEntry_changes (k : StartCause) : Changes Changes.startBlocks s (s.startEntry k) := by
  constructor
  intro b hb
  cases b <;> first | rfl | simp [Changes.startBlocks] at hb

theorem beginPhases_changes : Changes [.link, .store] s (s.beginPhases) := by
  unfold State.beginPhases
  try dsimp only
  repeat' (first | with_reducible exact Changes.refl _ _ | with_reducible refine (setOp_changes ..).after ?_ ?_ | with_reducible refine (setLink_changes ..).after ?_ ?_ | decide | split)

theorem owedRestart_changes : Changes Changes.startBlocks s (s.owedRestart) := by
  unfold State.owedRestart
  try dsimp only
  repeat' (first | with_reducible exact Changes.refl _ _ | with_reducible refine (beginPhases_changes ..).after ?_ ?_ | with_reducible refine (startEntry_changes ..).after ?_ ?_ | decide | split)

theorem loseSupply_changes : Changes [.timebase, .capture, .accum, .sched, .store, .engine, .config, .service, .power, .notices, .link, .scan, .array, .free, .supply] s (s.loseSupply) := by
  unfold State.loseSupply
  try dsimp only
  repeat' (first | with_reducible exact Changes.refl _ _ | with_reducible refine (setSupply_changes ..).after ?_ ?_ | with_reducible refine (setTimebase_changes ..).after ?_ ?_ | with_reducible refine (setAccum_changes ..).after ?_ ?_ | with_reducible refine (setConfig_changes ..).after ?_ ?_ | with_reducible refine (startEntry_changes ..).after ?_ ?_ | with_reducible refine (tear_changes ..).after ?_ ?_ | decide | split)

theorem samplePins_changes (p : PinLevels) : Changes [.capture, .accum, .service, .power, .pins] s (s.samplePins p) := by
  unfold State.samplePins
  try dsimp only
  repeat' (first | with_reducible exact Changes.refl _ _ | with_reducible refine (setPins_changes ..).after ?_ ?_ | with_reducible refine (setPower_changes ..).after ?_ ?_ | with_reducible refine (setService_changes ..).after ?_ ?_ | with_reducible refine (setAccum_changes ..).after ?_ ?_ | with_reducible refine (setCapture_changes ..).after ?_ ?_ | decide | split)

theorem powerUp_changes (p : PinLevels) : Changes [.timebase, .capture, .accum, .sched, .store, .engine, .config, .service, .power, .notices, .link, .scan, .array, .free, .supply, .pins] s (s.powerUp p) := by
  unfold State.powerUp
  try dsimp only
  repeat' (first | with_reducible exact Changes.refl _ _ | with_reducible refine (beginPhases_changes ..).after ?_ ?_ | with_reducible refine (startEntry_changes ..).after ?_ ?_ | with_reducible refine (setSupply_changes ..).after ?_ ?_ | with_reducible refine (samplePins_changes ..).after ?_ ?_ | with_reducible refine (loseSupply_changes ..).after ?_ ?_ | decide | split)

theorem returnToRun_changes : Changes Changes.choiceBlocks s (s.returnToRun) := by
  unfold State.returnToRun
  try dsimp only
  repeat' (first | with_reducible exact Changes.refl _ _ | with_reducible refine (arbiterRun_changes ..).after ?_ ?_ | with_reducible refine (startTransmitter_changes ..).after ?_ ?_ | with_reducible refine (followLines_changes ..).after ?_ ?_ | with_reducible refine (captureLive_changes ..).after ?_ ?_ | with_reducible refine (setPower_changes ..).after ?_ ?_ | decide | split)

theorem notWrite_changes (m : ChannelMask) : Changes [.power] s (s.notWrite m) := by
  unfold State.notWrite
  try dsimp only
  repeat' (first | with_reducible exact Changes.refl _ _ | with_reducible refine (setPower_changes ..).after ?_ ?_ | decide | split)

theorem setFlushList_changes (cs : List Channel) : Changes [.sched] s (s.setFlushList cs) := by
  unfold State.setFlushList
  try dsimp only
  repeat' (first | with_reducible exact Changes.refl _ _ | with_reducible refine (setSched_changes ..).after ?_ ?_ | decide | split)

theorem endReplyWait_changes : Changes Changes.startBlocks s (s.endReplyWait) := by
  unfold State.endReplyWait
  try dsimp only
  repeat' (first | with_reducible exact Changes.refl _ _ | with_reducible refine (owedRestart_changes ..).after ?_ ?_ | decide | split)

theorem flushEnd_changes : Changes Changes.anyBlocks s (s.flushEnd) := by
  unfold State.flushEnd
  try dsimp only
  repeat' (first | with_reducible exact Changes.refl _ _ | with_reducible refine (endReplyWait_changes ..).after ?_ ?_ | with_reducible refine (returnToRun_changes ..).after ?_ ?_ | with_reducible refine (setPower_changes ..).after ?_ ?_ | with_reducible refine (raise_changes ..).after ?_ ?_ | decide | split)

theorem offerFlush_changes : ∀ (cs : List Channel) (s : State), Changes Changes.anyBlocks s (offerFlush cs s)
  | [], s => flushEnd_changes s
  | c :: rest, s => by
    unfold offerFlush
    dsimp only
    split
    · exact (((setFlushList_changes s rest).mono (by decide)).trans ((notWrite_changes _ _).mono (by decide))).trans
        (offerFlush_changes rest _)
    · split
      · exact (((setFlushList_changes s []).mono (by decide)).trans ((notWrite_changes _ _).mono (by decide))).trans
          (flushEnd_changes _)
      · have h := ((setFlushList_changes s rest).mono (cs := Changes.anyBlocks) (by decide)).trans
          ((startCommit_changes (s.setFlushList rest) { channel := c, cause := .flush, waiters := [] }).mono (by decide))
        split
        · exact h.trans (offerFlush_changes rest _)
        · exact h

theorem arbiter_changes : Changes Changes.anyBlocks s (s.arbiter) := by
  unfold State.arbiter
  try dsimp only
  repeat' (first | with_reducible exact Changes.refl _ _ | with_reducible refine (arbiterRun_changes ..).after ?_ ?_ | with_reducible refine (offerFlush_changes ..).after ?_ ?_ | decide | split)

theorem cutHolder_changes : Changes [.store] s (s.cutHolder) := by
  unfold State.cutHolder
  try dsimp only
  repeat' (first | with_reducible exact Changes.refl _ _ | with_reducible refine (setHolder_changes ..).after ?_ ?_ | decide | split)

theorem abortErase_changes : Changes [.store] s (s.abortErase) := by
  unfold State.abortErase
  try dsimp only
  repeat' (first | with_reducible exact Changes.refl _ _ | with_reducible refine (setOp_changes ..).after ?_ ?_ | decide | split)

theorem enterFlush_changes : Changes [.power, .capture, .accum, .notices, .sched, .store, .link, .service, .config] s (s.enterFlush) := by
  unfold State.enterFlush
  try dsimp only
  repeat' (first | with_reducible exact Changes.refl _ _ | with_reducible refine (closeSession_changes ..).after ?_ ?_ | with_reducible refine (cancelAll_changes ..).after ?_ ?_ | with_reducible refine (abortErase_changes ..).after ?_ ?_ | with_reducible refine (cutHolder_changes ..).after ?_ ?_ | with_reducible refine (setSched_changes ..).after ?_ ?_ | with_reducible refine (drainCountsAll_changes ..).after ?_ ?_ | with_reducible refine (captureFreeze_changes ..).after ?_ ?_ | with_reducible refine (setPower_changes ..).after ?_ ?_ | decide | split)

theorem flushEntry_changes : Changes Changes.anyBlocks s (s.flushEntry) := by
  unfold State.flushEntry
  try dsimp only
  repeat' (first | with_reducible exact Changes.refl _ _ | with_reducible refine (arbiter_changes ..).after ?_ ?_ | with_reducible refine (enterFlush_changes ..).after ?_ ?_ | decide | split)

theorem resumeExpiry_changes : Changes Changes.anyBlocks s (s.resumeExpiry) := by
  unfold State.resumeExpiry
  try dsimp only
  repeat' (first | with_reducible exact Changes.refl _ _ | with_reducible refine (owedRestart_changes ..).after ?_ ?_ | with_reducible refine (returnToRun_changes ..).after ?_ ?_ | with_reducible refine (raise_changes ..).after ?_ ?_ | decide | split)

theorem resumeTick_changes : Changes Changes.anyBlocks s (s.resumeTick) := by
  unfold State.resumeTick
  try dsimp only
  repeat' (first | with_reducible exact Changes.refl _ _ | with_reducible refine (resumeExpiry_changes ..).after ?_ ?_ | with_reducible refine (setPower_changes ..).after ?_ ?_ | decide | split)

theorem sendReply_changes : Changes Changes.anyBlocks s (s.sendReply) := by
  unfold State.sendReply
  try dsimp only
  repeat' (first | with_reducible exact Changes.refl _ _ | with_reducible refine (endReplyWait_changes ..).after ?_ ?_ | with_reducible refine (startTransmitter_changes ..).after ?_ ?_ | with_reducible refine (flushEntry_changes ..).after ?_ ?_ | with_reducible refine (setPower_changes ..).after ?_ ?_ | with_reducible refine (setLink_changes ..).after ?_ ?_ | decide | split)

theorem setScanStep_changes (x : ScanStep) : Changes [.scan] s (s.setScanStep x) := by
  unfold State.setScanStep
  try dsimp only
  repeat' (first | with_reducible exact Changes.refl _ _ | with_reducible refine (setScan_changes ..).after ?_ ?_ | decide | split)

theorem beginScanRead_changes (x : ScanStep) (k : Sector) (n : Nat) : Changes [.scan, .store] s (s.beginScanRead x k n) := by
  unfold State.beginScanRead
  try dsimp only
  repeat' (first | with_reducible exact Changes.refl _ _ | with_reducible refine (beginOp_changes ..).after ?_ ?_ | with_reducible refine (setScanStep_changes ..).after ?_ ?_ | decide | split)

theorem applyChosen_changes (c : Chosen) : Changes [.config] s (s.applyChosen c) := by
  unfold State.applyChosen
  try dsimp only
  repeat' (first | with_reducible exact Changes.refl _ _ | with_reducible refine (setConfig_changes ..).after ?_ ?_ | decide | split)

theorem readHeader_changes (x : RingSector) : Changes [.scan, .store] s (s.readHeader x) := by
  unfold State.readHeader
  try dsimp only
  repeat' (first | with_reducible exact Changes.refl _ _ | with_reducible refine (beginScanRead_changes ..).after ?_ ?_ | decide | split)

theorem configReadEnd_changes (n : Nat) (bs : List Byte) : Changes [.scan, .store, .config] s (s.configReadEnd n bs) := by
  unfold State.configReadEnd
  try dsimp only
  repeat' (first | with_reducible exact Changes.refl _ _ | with_reducible refine (beginScanRead_changes ..).after ?_ ?_ | with_reducible refine (readHeader_changes ..).after ?_ ?_ | with_reducible refine (applyChosen_changes ..).after ?_ ?_ | with_reducible refine (setScan_changes ..).after ?_ ?_ | decide | split)

theorem offerRecord_changes (x : RingSector) (n : Nat) (y : ReadRecord) : Changes [.store, .scan] s (s.offerRecord x n y) := by
  unfold State.offerRecord
  try dsimp only
  repeat' (first | with_reducible exact Changes.refl _ _ | with_reducible refine (setScan_changes ..).after ?_ ?_ | with_reducible refine (setMapEntry_changes ..).after ?_ ?_ | decide | split)

theorem rebuildStore_changes : Changes [.store] s (s.rebuildStore) := by
  unfold State.rebuildStore
  try dsimp only
  repeat' (first | with_reducible exact Changes.refl _ _ | with_reducible refine (setStore_changes ..).after ?_ ?_ | decide | split)

theorem rebuildLive_changes : Changes [.accum, .capture] s (s.rebuildLive) := by
  unfold State.rebuildLive
  try dsimp only
  repeat' (first | with_reducible exact Changes.refl _ _ | with_reducible refine (setCapture_changes ..).after ?_ ?_ | with_reducible refine (setAccum_changes ..).after ?_ ?_ | decide | split)

theorem rebuildTariff_changes : Changes [.accum] s (s.rebuildTariff) := by
  unfold State.rebuildTariff
  try dsimp only
  repeat' (first | with_reducible exact Changes.refl _ _ | with_reducible refine (setAccum_changes ..).after ?_ ?_ | decide | split)

theorem raiseStartNotices_changes : Changes [.notices] s (s.raiseStartNotices) := by
  unfold State.raiseStartNotices
  try dsimp only
  repeat' (first | with_reducible exact Changes.refl _ _ | with_reducible refine (raise_changes ..).after ?_ ?_ | decide | split)

theorem enterRun_changes : Changes Changes.anyBlocks s (s.enterRun) := by
  unfold State.enterRun
  try dsimp only
  repeat' (first | with_reducible refine (setReceiver_changes ..).after ?_ ?_ | with_reducible exact Changes.refl _ _ | with_reducible refine (flushEntry_changes ..).after ?_ ?_ | with_reducible refine (arbiter_changes ..).after ?_ ?_ | with_reducible refine (raiseStartNotices_changes ..).after ?_ ?_ | with_reducible refine (captureLive_changes ..).after ?_ ?_ | with_reducible refine (setScanStep_changes ..).after ?_ ?_ | with_reducible refine (setPower_changes ..).after ?_ ?_ | decide | split)

theorem completeStart_changes : Changes Changes.anyBlocks s (s.completeStart) := by
  unfold State.completeStart
  try dsimp only
  repeat' (first | with_reducible exact Changes.refl _ _ | with_reducible refine (enterRun_changes ..).after ?_ ?_ | with_reducible refine (rebuildTariff_changes ..).after ?_ ?_ | with_reducible refine (rebuildLive_changes ..).after ?_ ?_ | with_reducible refine (rebuildStore_changes ..).after ?_ ?_ | decide | split)

theorem rebuildFrom_changes (xs : List RingSector) : Changes Changes.anyBlocks s (s.rebuildFrom xs) := by
  unfold State.rebuildFrom
  try dsimp only
  repeat' (first | with_reducible exact Changes.refl _ _ | with_reducible refine (completeStart_changes ..).after ?_ ?_ | with_reducible refine (beginScanRead_changes ..).after ?_ ?_ | decide | split)

theorem rebuildReadEnd_changes (x : RingSector) (n : Nat) (bs : List Byte) : Changes Changes.anyBlocks s (s.rebuildReadEnd x n bs) := by
  unfold State.rebuildReadEnd
  try dsimp only
  repeat' (first | with_reducible exact Changes.refl _ _ | with_reducible refine (rebuildFrom_changes ..).after ?_ ?_ | with_reducible refine (beginScanRead_changes ..).after ?_ ?_ | with_reducible refine (offerRecord_changes ..).after ?_ ?_ | decide | split)

theorem secondPass_changes : Changes Changes.anyBlocks s (s.secondPass) := by
  unfold State.secondPass
  try dsimp only
  repeat' (first | with_reducible exact Changes.refl _ _ | with_reducible refine (rebuildFrom_changes ..).after ?_ ?_ | with_reducible refine (beginScanRead_changes ..).after ?_ ?_ | with_reducible refine (setStore_changes ..).after ?_ ?_ | decide | split)

theorem nextHeader_changes (x : RingSector) : Changes Changes.anyBlocks s (s.nextHeader x) := by
  unfold State.nextHeader
  try dsimp only
  repeat' (first | with_reducible exact Changes.refl _ _ | with_reducible refine (secondPass_changes ..).after ?_ ?_ | with_reducible refine (readHeader_changes ..).after ?_ ?_ | decide | split)

theorem headerReadEnd_changes (x : RingSector) (bs : List Byte) : Changes Changes.anyBlocks s (s.headerReadEnd x bs) := by
  unfold State.headerReadEnd
  try dsimp only
  repeat' (first | with_reducible exact Changes.refl _ _ | with_reducible refine (nextHeader_changes ..).after ?_ ?_ | with_reducible refine (beginScanRead_changes ..).after ?_ ?_ | with_reducible refine (setSectorState_changes ..).after ?_ ?_ | with_reducible refine (setScan_changes ..).after ?_ ?_ | decide | split)

theorem contentReadEnd_changes (x : RingSector) (n : Nat) (bs : List Byte) : Changes Changes.anyBlocks s (s.contentReadEnd x n bs) := by
  unfold State.contentReadEnd
  try dsimp only
  repeat' (first | with_reducible exact Changes.refl _ _ | with_reducible refine (nextHeader_changes ..).after ?_ ?_ | with_reducible refine (beginScanRead_changes ..).after ?_ ?_ | with_reducible refine (setSectorState_changes ..).after ?_ ?_ | decide | split)

theorem headReadEnd_changes (x : RingSector) (e n : Nat) (bs : List Byte) : Changes Changes.anyBlocks s (s.headReadEnd x e n bs) := by
  unfold State.headReadEnd
  try dsimp only
  repeat' (first | with_reducible exact Changes.refl _ _ | with_reducible refine (rebuildFrom_changes ..).after ?_ ?_ | with_reducible refine (beginScanRead_changes ..).after ?_ ?_ | with_reducible refine (setSectorState_changes ..).after ?_ ?_ | decide | split)

theorem scanReadEnd_changes (bs : List Byte) : Changes Changes.anyBlocks s (s.scanReadEnd bs) := by
  unfold State.scanReadEnd
  try dsimp only
  repeat' (first | with_reducible exact Changes.refl _ _ | with_reducible refine (configReadEnd_changes ..).after ?_ ?_ | with_reducible refine (headerReadEnd_changes ..).after ?_ ?_ | with_reducible refine (contentReadEnd_changes ..).after ?_ ?_ | with_reducible refine (headReadEnd_changes ..).after ?_ ?_ | with_reducible refine (rebuildReadEnd_changes ..).after ?_ ?_ | decide | split)

theorem reply_changes (k : RequestKind) (t : Byte) (a : Answer) : Changes [.link] s (s.reply k t a) := by
  unfold State.reply
  try dsimp only
  repeat' (first | with_reducible exact Changes.refl _ _ | with_reducible refine (answer_changes ..).after ?_ ?_ | decide | split)

theorem refuse_changes (k : RequestKind) (t : Byte) (x : Status) : Changes [.link] s (s.refuse k t x) := by
  unfold State.refuse
  try dsimp only
  repeat' (first | with_reducible exact Changes.refl _ _ | with_reducible refine (reply_changes ..).after ?_ ?_ | decide | split)

theorem popRequest_changes : Changes [.link] s (s.popRequest) := by
  unfold State.popRequest
  try dsimp only
  repeat' (first | with_reducible exact Changes.refl _ _ | with_reducible refine (setLink_changes ..).after ?_ ?_ | decide | split)

theorem doPing_changes (t : Byte) : Changes [.link] s (s.doPing t) := by
  unfold State.doPing
  try dsimp only
  repeat' (first | with_reducible exact Changes.refl _ _ | with_reducible refine (reply_changes ..).after ?_ ?_ | decide | split)

theorem doGetStatus_changes (t : Byte) : Changes [.link] s (s.doGetStatus t) := by
  unfold State.doGetStatus
  try dsimp only
  repeat' (first | with_reducible exact Changes.refl _ _ | with_reducible refine (reply_changes ..).after ?_ ?_ | decide | split)

theorem doReadChannel_changes (t : Byte) (p : List Byte) : Changes [.link] s (s.doReadChannel t p) := by
  unfold State.doReadChannel
  try dsimp only
  repeat' (first | with_reducible exact Changes.refl _ _ | with_reducible refine (reply_changes ..).after ?_ ?_ | with_reducible refine (refuse_changes ..).after ?_ ?_ | decide | split)

theorem doReadCommitted_changes (t : Byte) (p : List Byte) : Changes [.link] s (s.doReadCommitted t p) := by
  unfold State.doReadCommitted
  try dsimp only
  repeat' (first | with_reducible exact Changes.refl _ _ | with_reducible refine (reply_changes ..).after ?_ ?_ | with_reducible refine (refuse_changes ..).after ?_ ?_ | decide | split)

theorem doGetStoreMap_changes (t : Byte) (p : List Byte) : Changes [.link] s (s.doGetStoreMap t p) := by
  unfold State.doGetStoreMap
  try dsimp only
  repeat' (first | with_reducible exact Changes.refl _ _ | with_reducible refine (reply_changes ..).after ?_ ?_ | with_reducible refine (refuse_changes ..).after ?_ ?_ | decide | split)

theorem doReadConfig_changes (t : Byte) (p : List Byte) : Changes [.link] s (s.doReadConfig t p) := by
  unfold State.doReadConfig
  try dsimp only
  repeat' (first | with_reducible exact Changes.refl _ _ | with_reducible refine (reply_changes ..).after ?_ ?_ | with_reducible refine (refuse_changes ..).after ?_ ?_ | decide | split)

theorem doReadSlot_changes (t : Byte) (p : List Byte) : Changes Changes.anyBlocks s (s.doReadSlot t p) := by
  unfold State.doReadSlot
  try dsimp only
  repeat' (first | with_reducible exact Changes.refl _ _ | with_reducible refine (arbiter_changes ..).after ?_ ?_ | with_reducible refine (acceptJob_changes ..).after ?_ ?_ | with_reducible refine (refuse_changes ..).after ?_ ?_ | decide | split)

theorem doSetTariff_changes (t : Byte) (p : List Byte) : Changes Changes.anyBlocks s (s.doSetTariff t p) := by
  unfold State.doSetTariff
  try dsimp only
  repeat' (first | with_reducible exact Changes.refl _ _ | with_reducible refine (arbiter_changes ..).after ?_ ?_ | with_reducible refine (reply_changes ..).after ?_ ?_ | with_reducible refine (tariffSwitch_changes ..).after ?_ ?_ | with_reducible refine (refuse_changes ..).after ?_ ?_ | decide | split)

theorem doCommit_changes (t : Byte) (p : List Byte) : Changes Changes.anyBlocks s (s.doCommit t p) := by
  unfold State.doCommit
  try dsimp only
  repeat' (first | with_reducible exact Changes.refl _ _ | with_reducible refine (arbiter_changes ..).after ?_ ?_ | with_reducible refine (deliverAll_changes ..).after ?_ ?_ | with_reducible refine (acceptJob_changes ..).after ?_ ?_ | with_reducible refine (refuse_changes ..).after ?_ ?_ | decide | split)

theorem doLoadTotals_changes (t : Byte) (p : List Byte) : Changes Changes.anyBlocks s (s.doLoadTotals t p) := by
  unfold State.doLoadTotals
  try dsimp only
  repeat' (first | with_reducible exact Changes.refl _ _ | with_reducible refine (arbiter_changes ..).after ?_ ?_ | with_reducible refine (loadEffect_changes ..).after ?_ ?_ | with_reducible refine (acceptJob_changes ..).after ?_ ?_ | with_reducible refine (refuse_changes ..).after ?_ ?_ | decide | split)

theorem doRestart_changes (t : Byte) : Changes [.link] s (s.doRestart t) := by
  unfold State.doRestart
  try dsimp only
  repeat' (first | with_reducible exact Changes.refl _ _ | with_reducible refine (reply_changes ..).after ?_ ?_ | decide | split)

theorem doFetchNotice_changes (t : Byte) (p : List Byte) : Changes [.notices, .link] s (s.doFetchNotice t p) := by
  unfold State.doFetchNotice
  try dsimp only
  repeat' (first | with_reducible exact Changes.refl _ _ | with_reducible refine (reply_changes ..).after ?_ ?_ | with_reducible refine (refuse_changes ..).after ?_ ?_ | with_reducible refine (takeNotice_changes ..).after ?_ ?_ | decide | split)

theorem doAckNotice_changes (t : Byte) : Changes [.notices, .link] s (s.doAckNotice t) := by
  unfold State.doAckNotice
  try dsimp only
  repeat' (first | with_reducible exact Changes.refl _ _ | with_reducible refine (reply_changes ..).after ?_ ?_ | with_reducible refine (setNotices_changes ..).after ?_ ?_ | decide | split)

theorem doSetNoticeMask_changes (t : Byte) (p : List Byte) : Changes [.notices, .link] s (s.doSetNoticeMask t p) := by
  unfold State.doSetNoticeMask
  try dsimp only
  repeat' (first | with_reducible exact Changes.refl _ _ | with_reducible refine (reply_changes ..).after ?_ ?_ | with_reducible refine (setNotices_changes ..).after ?_ ?_ | decide | split)

theorem doOpenService_changes (t : Byte) : Changes [.service, .config, .link] s (s.doOpenService t) := by
  unfold State.doOpenService
  try dsimp only
  repeat' (first | with_reducible exact Changes.refl _ _ | with_reducible refine (reply_changes ..).after ?_ ?_ | with_reducible refine (refuse_changes ..).after ?_ ?_ | with_reducible refine (setConfig_changes ..).after ?_ ?_ | with_reducible refine (setService_changes ..).after ?_ ?_ | decide | split)

theorem doCloseService_changes (t : Byte) : Changes [.service, .config, .notices, .link] s (s.doCloseService t) := by
  unfold State.doCloseService
  try dsimp only
  repeat' (first | with_reducible exact Changes.refl _ _ | with_reducible refine (reply_changes ..).after ?_ ?_ | with_reducible refine (closeSession_changes ..).after ?_ ?_ | decide | split)

theorem setStaged_changes (c : Configuration) : Changes [.config] s (s.setStaged c) := by
  unfold State.setStaged
  try dsimp only
  repeat' (first | with_reducible exact Changes.refl _ _ | with_reducible refine (setConfig_changes ..).after ?_ ?_ | decide | split)

theorem doStageChannel_changes (t : Byte) (p : List Byte) : Changes [.config, .link] s (s.doStageChannel t p) := by
  unfold State.doStageChannel
  try dsimp only
  repeat' (first | with_reducible exact Changes.refl _ _ | with_reducible refine (reply_changes ..).after ?_ ?_ | with_reducible refine (refuse_changes ..).after ?_ ?_ | with_reducible refine (setStaged_changes ..).after ?_ ?_ | decide | split)

theorem doStageGlobals_changes (t : Byte) (p : List Byte) : Changes [.config, .link] s (s.doStageGlobals t p) := by
  unfold State.doStageGlobals
  try dsimp only
  repeat' (first | with_reducible exact Changes.refl _ _ | with_reducible refine (reply_changes ..).after ?_ ?_ | with_reducible refine (refuse_changes ..).after ?_ ?_ | with_reducible refine (setStaged_changes ..).after ?_ ?_ | decide | split)

theorem doDiscardStaged_changes (t : Byte) : Changes [.config, .link] s (s.doDiscardStaged t) := by
  unfold State.doDiscardStaged
  try dsimp only
  repeat' (first | with_reducible exact Changes.refl _ _ | with_reducible refine (reply_changes ..).after ?_ ?_ | with_reducible refine (refuse_changes ..).after ?_ ?_ | with_reducible refine (setStaged_changes ..).after ?_ ?_ | decide | split)

theorem doApplyConfig_changes (t : Byte) : Changes Changes.anyBlocks s (s.doApplyConfig t) := by
  unfold State.doApplyConfig
  try dsimp only
  repeat' (first | with_reducible exact Changes.refl _ _ | with_reducible refine (arbiter_changes ..).after ?_ ?_ | with_reducible refine (acceptJob_changes ..).after ?_ ?_ | with_reducible refine (refuse_changes ..).after ?_ ?_ | decide | split)

theorem perform_changes (k : RequestKind) (t : Byte) (p : List Byte) : Changes Changes.anyBlocks s (s.perform k t p) := by
  cases k
  · exact (doPing_changes ..).mono (by decide)
  · exact (doGetStatus_changes ..).mono (by decide)
  · exact (doReadChannel_changes ..).mono (by decide)
  · exact (doReadCommitted_changes ..).mono (by decide)
  · exact (doGetStoreMap_changes ..).mono (by decide)
  · exact (doReadSlot_changes ..).mono (by decide)
  · exact (doSetTariff_changes ..).mono (by decide)
  · exact (doCommit_changes ..).mono (by decide)
  · exact (doFetchNotice_changes ..).mono (by decide)
  · exact (doAckNotice_changes ..).mono (by decide)
  · exact (doSetNoticeMask_changes ..).mono (by decide)
  · exact (doOpenService_changes ..).mono (by decide)
  · exact (doCloseService_changes ..).mono (by decide)
  · exact (doStageChannel_changes ..).mono (by decide)
  · exact (doStageGlobals_changes ..).mono (by decide)
  · exact (doReadConfig_changes ..).mono (by decide)
  · exact (doApplyConfig_changes ..).mono (by decide)
  · exact (doDiscardStaged_changes ..).mono (by decide)
  · exact (doLoadTotals_changes ..).mono (by decide)
  · exact (doRestart_changes ..).mono (by decide)

theorem executeKnown_changes {f : State → State} {bs : List Block} (k : RequestKind) (t : Byte) (p : List Byte)
    (hf : ∀ x, Changes bs x (f x)) (hb : [.link] ⊆ bs) : Changes bs s (s.executeKnown k t p f) := by
  unfold State.executeKnown
  split
  · exact ((popRequest_changes s).mono hb).trans (hf _)
  · exact ((popRequest_changes s).mono hb).trans ((refuse_changes _ k t .badLength).mono hb)

theorem executeUnknown_changes (k t : Byte) : Changes [.link] s (s.executeUnknown k t) := by
  unfold State.executeUnknown
  try dsimp only
  repeat' (first | with_reducible exact Changes.refl _ _ | with_reducible refine (answer_changes ..).after ?_ ?_ | with_reducible refine (popRequest_changes ..).after ?_ ?_ | decide | split)

theorem executeHead_changes : Changes Changes.anyBlocks s s.executeHead := by
  unfold State.executeHead
  split
  · split
    · exact executeKnown_changes _ _ _ _ (fun x => perform_changes x _ _ _) (by decide)
    · exact (executeUnknown_changes ..).mono (by decide)
  · exact Changes.refl _ _

theorem executeAs_changes {f : State → State} {bs : List Block} (k : RequestKind) (t : Byte) (p : List Byte)
    (hf : ∀ x, Changes bs x (f x)) (hb : [.link] ⊆ bs) : Changes bs s (s.executeAs k t p f) := by
  unfold State.executeAs
  split
  · exact executeKnown_changes s k t p hf hb
  · exact Changes.refl _ _

theorem recordEnd_changes (o : ProgramOutcome) : Changes Changes.jobBlocks s (s.recordEnd o) := by
  unfold State.recordEnd
  try dsimp only
  repeat' (first | with_reducible exact Changes.refl _ _ | with_reducible refine (attemptFailed_changes ..).after ?_ ?_ | with_reducible refine (beginOp_changes ..).after ?_ ?_ | with_reducible refine (setHolder_changes ..).after ?_ ?_ | decide | split)

theorem confirmEnd_changes (o : ProgramOutcome) : Changes [.store, .accum, .link, .engine, .notices, .free, .power] s (s.confirmEnd o) := by
  unfold State.confirmEnd
  try dsimp only
  repeat' (first | with_reducible exact Changes.refl _ _ | with_reducible refine (attemptFailed_changes ..).after ?_ ?_ | with_reducible refine (jobSucceeds_changes ..).after ?_ ?_ | with_reducible refine (setHolder_changes ..).after ?_ ?_ | decide | split)

theorem epochEnd_changes (k : Sector) (o : ProgramOutcome) : Changes Changes.jobBlocks s (s.epochEnd k o) := by
  unfold State.epochEnd
  try dsimp only
  repeat' (first | with_reducible exact Changes.refl _ _ | with_reducible refine (beginRecord_changes ..).after ?_ ?_ | with_reducible refine (openHead_changes ..).after ?_ ?_ | with_reducible refine (setHolder_changes ..).after ?_ ?_ | with_reducible refine (setSectorState_changes ..).after ?_ ?_ | decide | split)

theorem copyReadEnd_changes (bs : List Byte) : Changes Changes.jobBlocks s (s.copyReadEnd bs) := by
  unfold State.copyReadEnd
  try dsimp only
  repeat' (first | with_reducible exact Changes.refl _ _ | with_reducible refine (nextAttempt_changes ..).after ?_ ?_ | with_reducible refine (setHolder_changes ..).after ?_ ?_ | with_reducible refine (storeFault_changes ..).after ?_ ?_ | decide | split)

theorem retireEnd_changes (k : Sector) : Changes [.store, .engine] s (s.retireEnd k) := by
  unfold State.retireEnd
  try dsimp only
  repeat' (first | with_reducible exact Changes.refl _ _ | with_reducible refine (setPhase_changes ..).after ?_ ?_ | with_reducible refine (setSectorState_changes ..).after ?_ ?_ | decide | split)

theorem wearOut_changes (t : RingSector) : Changes [.store, .engine, .notices, .sched, .link] s (s.wearOut t) := by
  unfold State.wearOut
  try dsimp only
  repeat' (first | with_reducible exact Changes.refl _ _ | with_reducible refine (testExhausted_changes ..).after ?_ ?_ | with_reducible refine (setPhase_changes ..).after ?_ ?_ | with_reducible refine (storeFault_changes ..).after ?_ ?_ | with_reducible refine (setSectorState_changes ..).after ?_ ?_ | decide | split)

theorem eraseEnd_changes (o : EraseOutcome) : Changes [.store, .engine, .notices, .sched, .link] s (s.eraseEnd o) := by
  unfold State.eraseEnd
  try dsimp only
  repeat' (first | with_reducible exact Changes.refl _ _ | with_reducible refine (wearOut_changes ..).after ?_ ?_ | with_reducible refine (setPhase_changes ..).after ?_ ?_ | with_reducible refine (setSectorState_changes ..).after ?_ ?_ | decide | split)

theorem countEnd_changes (o : ProgramOutcome) : Changes [.store, .engine, .notices, .sched, .link] s (s.countEnd o) := by
  unfold State.countEnd
  try dsimp only
  repeat' (first | with_reducible exact Changes.refl _ _ | with_reducible refine (testExhausted_changes ..).after ?_ ?_ | with_reducible refine (setPhase_changes ..).after ?_ ?_ | with_reducible refine (setEntry_changes ..).after ?_ ?_ | decide | split)

theorem recapture_changes (x : Configuration) : Changes [.capture] s (s.recapture x) := by
  unfold State.recapture
  try dsimp only
  repeat' (first | with_reducible exact Changes.refl _ _ | with_reducible refine (setCapture_changes ..).after ?_ ?_ | decide | split)

theorem retimeInterval_changes (x : Configuration) : Changes [.sched] s (s.retimeInterval x) := by
  unfold State.retimeInterval
  try dsimp only
  repeat' (first | with_reducible exact Changes.refl _ _ | with_reducible refine (setSched_changes ..).after ?_ ?_ | decide | split)

theorem retimeIdle_changes (x : Configuration) : Changes [.service] s (s.retimeIdle x) := by
  unfold State.retimeIdle
  try dsimp only
  repeat' (first | with_reducible exact Changes.refl _ _ | with_reducible refine (restartIdle_changes ..).after ?_ ?_ | decide | split)

theorem resourceTariff_changes (x : Configuration) : Changes Changes.drainBlocks s (s.resourceTariff x) := by
  unfold State.resourceTariff
  try dsimp only
  repeat' (first | with_reducible exact Changes.refl _ _ | with_reducible refine (followLines_changes ..).after ?_ ?_ | decide | split)

theorem followStaged_changes : Changes [.config] s (s.followStaged) := by
  unfold State.followStaged
  try dsimp only
  repeat' (first | with_reducible exact Changes.refl _ _ | with_reducible refine (setStaged_changes ..).after ?_ ?_ | decide | split)

theorem applySwap_changes (i : Configuration) (p : ApplyProgress) : Changes [.capture, .accum, .notices, .sched, .link, .config, .service] s (s.applySwap i p) := by
  unfold State.applySwap
  try dsimp only
  repeat' (first | with_reducible exact Changes.refl _ _ | with_reducible refine (followStaged_changes ..).after ?_ ?_ | with_reducible refine (retimeIdle_changes ..).after ?_ ?_ | with_reducible refine (retimeInterval_changes ..).after ?_ ?_ | with_reducible refine (resourceTariff_changes ..).after ?_ ?_ | with_reducible refine (recapture_changes ..).after ?_ ?_ | with_reducible refine (setConfig_changes ..).after ?_ ?_ | with_reducible refine (drainAll_changes ..).after ?_ ?_ | decide | split)

theorem applyFails_changes (w : JobSlot) (p : ApplyProgress) : Changes [.notices, .link] s (s.applyFails w p) := by
  unfold State.applyFails
  try dsimp only
  repeat' (first | with_reducible exact Changes.refl _ _ | with_reducible refine (endJob_changes ..).after ?_ ?_ | with_reducible refine (storeFault_changes ..).after ?_ ?_ | decide | split)

theorem configEraseEnd_changes (o : EraseOutcome) : Changes [.notices, .link] s (s.configEraseEnd o) := by
  unfold State.configEraseEnd
  try dsimp only
  repeat' (first | with_reducible exact Changes.refl _ _ | with_reducible refine (applyFails_changes ..).after ?_ ?_ | with_reducible refine (setJobState_changes ..).after ?_ ?_ | decide | split)

theorem imageProgramEnd_changes (o : ProgramOutcome) : Changes [.capture, .accum, .notices, .sched, .link, .config, .service] s (s.imageProgramEnd o) := by
  unfold State.imageProgramEnd
  try dsimp only
  repeat' (first | with_reducible exact Changes.refl _ _ | with_reducible refine (applyFails_changes ..).after ?_ ?_ | with_reducible refine (setJobState_changes ..).after ?_ ?_ | with_reducible refine (endJob_changes ..).after ?_ ?_ | with_reducible refine (applySwap_changes ..).after ?_ ?_ | decide | split)

theorem slotReadEnd_changes (bs : List Byte) : Changes [.link] s (s.slotReadEnd bs) := by
  unfold State.slotReadEnd
  try dsimp only
  repeat' (first | with_reducible exact Changes.refl _ _ | with_reducible refine (endJob_changes ..).after ?_ ?_ | decide | split)

theorem clearRetryWait_changes : Changes [.engine] s (s.clearRetryWait) := by
  unfold State.clearRetryWait
  try dsimp only
  repeat' (first | with_reducible exact Changes.refl _ _ | with_reducible refine (setEngine_changes ..).after ?_ ?_ | decide | split)

theorem intervalSecond_changes : Changes [.sched, .link] s (s.intervalSecond) := by
  unfold State.intervalSecond
  try dsimp only
  repeat' (first | with_reducible exact Changes.refl _ _ | with_reducible refine (intervalExpiry_changes ..).after ?_ ?_ | with_reducible refine (setSched_changes ..).after ?_ ?_ | decide | split)

theorem idleSecond_changes : Changes [.service, .config, .notices] s (s.idleSecond) := by
  unfold State.idleSecond
  try dsimp only
  repeat' (first | with_reducible exact Changes.refl _ _ | with_reducible refine (closeSession_changes ..).after ?_ ?_ | with_reducible refine (setService_changes ..).after ?_ ?_ | decide | split)

theorem secondEffects_changes : Changes [.engine, .sched, .link, .service, .config, .notices] s (s.secondEffects) := by
  unfold State.secondEffects
  try dsimp only
  repeat' (first | with_reducible exact Changes.refl _ _ | with_reducible refine (idleSecond_changes ..).after ?_ ?_ | with_reducible refine (intervalSecond_changes ..).after ?_ ?_ | with_reducible refine (clearRetryWait_changes ..).after ?_ ?_ | decide | split)

theorem takeSecond_changes : Changes [.timebase, .engine, .sched, .link, .service, .config, .notices] s (s.takeSecond) := by
  unfold State.takeSecond
  try dsimp only
  repeat' (first | with_reducible exact Changes.refl _ _ | with_reducible refine (secondEffects_changes ..).after ?_ ?_ | with_reducible refine (setTimebase_changes ..).after ?_ ?_ | decide | split)

theorem secondTick_changes : Changes [.timebase, .engine, .sched, .link, .service, .config, .notices] s (s.secondTick) := by
  unfold State.secondTick
  try dsimp only
  repeat' (first | with_reducible exact Changes.refl _ _ | with_reducible refine (takeSecond_changes ..).after ?_ ?_ | with_reducible refine (setTimebase_changes ..).after ?_ ?_ | decide | split)

theorem tickEffects_changes : Changes Changes.anyBlocks s (s.tickEffects) := by
  unfold State.tickEffects
  try dsimp only
  repeat' (first | with_reducible exact Changes.refl _ _ | with_reducible refine (resumeTick_changes ..).after ?_ ?_ | with_reducible refine (executeHead_changes ..).after ?_ ?_ | with_reducible refine (drainRound_changes ..).after ?_ ?_ | with_reducible refine (gapTick_changes ..).after ?_ ?_ | with_reducible refine (captureTick_changes ..).after ?_ ?_ | with_reducible refine (tselTick_changes ..).after ?_ ?_ | with_reducible refine (svcTick_changes ..).after ?_ ?_ | with_reducible refine (secondTick_changes ..).after ?_ ?_ | decide | split)

theorem syncChannel_changes (c : Channel) (l : Level) : Changes [.capture, .notices] s (s.syncChannel c l) := by
  unfold State.syncChannel
  try dsimp only
  repeat' (first | with_reducible exact Changes.refl _ _ | with_reducible refine (changeFiltered_changes ..).after ?_ ?_ | with_reducible refine (setCaptureChannel_changes ..).after ?_ ?_ | decide | split)

theorem syncPin_changes (p : Pin) (l : Level) : Changes [.capture, .notices, .accum, .service, .power, .pins] s (s.syncPin p l) := by
  unfold State.syncPin
  try dsimp only
  repeat' (first | with_reducible exact Changes.refl _ _ | with_reducible refine (syncChannel_changes ..).after ?_ ?_ | with_reducible refine (setAccum_changes ..).after ?_ ?_ | with_reducible refine (setService_changes ..).after ?_ ?_ | with_reducible refine (setPower_changes ..).after ?_ ?_ | with_reducible refine (setPins_changes ..).after ?_ ?_ | decide | split)

theorem setPfail_changes (b : Bool) : Changes [.power] s (s.setPfail b) := by
  unfold State.setPfail
  try dsimp only
  repeat' (first | with_reducible exact Changes.refl _ _ | with_reducible refine (setPower_changes ..).after ?_ ?_ | decide | split)

theorem setResume_changes (t : Option Nat) : Changes [.power] s (s.setResume t) := by
  unfold State.setResume
  try dsimp only
  repeat' (first | with_reducible exact Changes.refl _ _ | with_reducible refine (setPower_changes ..).after ?_ ?_ | decide | split)

theorem pfailRises_changes : Changes Changes.anyBlocks s (s.pfailRises) := by
  unfold State.pfailRises
  try dsimp only
  repeat' (first | with_reducible exact Changes.refl _ _ | with_reducible refine (flushEntry_changes ..).after ?_ ?_ | with_reducible refine (setResume_changes ..).after ?_ ?_ | with_reducible refine (setPfail_changes ..).after ?_ ?_ | decide | split)

theorem pfailFalls_changes : Changes [.power] s (s.pfailFalls) := by
  unfold State.pfailFalls
  try dsimp only
  repeat' (first | with_reducible exact Changes.refl _ _ | with_reducible refine (setResume_changes ..).after ?_ ?_ | with_reducible refine (setPfail_changes ..).after ?_ ?_ | decide | split)


end State

end Sys2Proof.Machine
end

