-- ==== Sys2Proof/Laws/Memory.lean ====
section
/-! SUPPORT. The array as memory: every operation keeps the canonical form, and what a byte reads as afterwards. -/

namespace Sys2Proof.Machine

namespace Memory

/-! ## One byte -/

theorem wfAbove_mono {lo : Option Nat} {a : Nat} {m : Memory} (h : wfAbove (some a) m) (hl : lo.all (· ≤ a)) :
    wfAbove lo m := by
  cases m with
  | nil => rfl
  | cons c m =>
    obtain ⟨k, v⟩ := c
    simp only [wfAbove, Option.all_some, Bool.and_eq_true, decide_eq_true_eq] at h ⊢
    refine ⟨⟨?_, h.1.2⟩, h.2⟩
    cases lo with
    | none => rfl
    | some l => simp at hl ⊢; omega

theorem read_below {lo : Nat} {m : Memory} (h : wfAbove (some lo) m) {a : Nat} (ha : a ≤ lo) : read m a = erasedByte := by
  induction m generalizing lo with
  | nil => rfl
  | cons c m ih =>
    obtain ⟨k, v⟩ := c
    simp only [wfAbove, Option.all_some, Bool.and_eq_true, decide_eq_true_eq] at h
    have hk : a ≠ k := by omega
    simp only [read, hk, if_false]
    exact ih h.2 (by omega)

theorem put_wfAbove {m : Memory} {a : Nat} (b : Byte) : ∀ {lo : Option Nat}, wfAbove lo m → lo.all (· < a) →
    wfAbove lo (put m a b) := by
  induction m with
  | nil =>
    intro lo _ hl
    by_cases hb : b = erasedByte
    · simp [put, hb, wfAbove]
    · simp [put, hb, wfAbove, hl]
  | cons c m ih =>
    obtain ⟨k, v⟩ := c
    intro lo h hl
    simp only [wfAbove, Bool.and_eq_true, bne_iff_ne, ne_eq] at h
    obtain ⟨⟨h1, h2⟩, h3⟩ := h
    by_cases hak : a < k
    · by_cases hb : b = erasedByte
      · simp [put, hak, hb, wfAbove, h1, h2, h3]
      · simp [put, hak, hb, wfAbove, hl, h2, h3]
    · by_cases hk : a = k
      · subst hk
        by_cases hb : b = erasedByte
        · simp only [put, Nat.lt_irrefl, if_false, if_true, hb]
          exact wfAbove_mono h3 (by cases lo <;> simp_all; omega)
        · simp [put, hb, wfAbove, hl, h3]
      · have hka : k < a := by omega
        have := ih h3 (lo := some k) (by simpa using hka)
        simp [put, hak, hk, wfAbove, h1, h2, this]

/-- A write keeps the canonical form. -/
theorem put_wf {m : Memory} (h : wf m) (a : Nat) (b : Byte) : wf (put m a b) := put_wfAbove b h rfl

/-- A read after a write to the same address gives the value written. -/
theorem read_put_self {m : Memory} (a : Nat) (b : Byte) : ∀ {lo : Option Nat}, wfAbove lo m → read (put m a b) a = b := by
  induction m with
  | nil =>
    intro _ _
    by_cases hb : b = erasedByte <;> simp [put, hb, read]
  | cons c m ih =>
    obtain ⟨k, v⟩ := c
    intro lo h
    simp only [wfAbove, Bool.and_eq_true, bne_iff_ne, ne_eq] at h
    by_cases hak : a < k
    · have hne : a ≠ k := by omega
      by_cases hb : b = erasedByte
      · simp only [put, hak, if_true, hb, read, hne, if_false]
        exact read_below h.2 (by omega)
      · simp [put, hak, hb, read]
    · by_cases hk : a = k
      · subst hk
        by_cases hb : b = erasedByte
        · simp only [put, Nat.lt_irrefl, if_false, if_true, hb]
          exact read_below h.2 (Nat.le_refl _)
        · simp [put, hb, read]
      · simp only [put, hak, hk, if_false, read]
        exact ih h.2

/-- A write leaves every other address alone. -/
theorem read_put_ne (m : Memory) {a x : Nat} (b : Byte) (hx : x ≠ a) : read (put m a b) x = read m x := by
  induction m with
  | nil => by_cases hb : b = erasedByte <;> simp [put, hb, read, hx]
  | cons c m ih =>
    obtain ⟨k, v⟩ := c
    simp only [put]
    split
    · split
      · rfl
      · simp [read, hx]
    · split
      · rename_i hk
        subst hk
        split <;> simp [read, hx]
      · simp [read, ih]

/-- A read after a write. -/
theorem read_put {m : Memory} (h : wf m) (a x : Nat) (b : Byte) :
    read (put m a b) x = if x = a then b else read m x := by
  by_cases hx : x = a
  · subst hx
    simp only [if_true]
    exact read_put_self x b h
  · simp only [hx, if_false]
    exact read_put_ne m b hx

/-! ## Programs -/

theorem program_wf {m : Memory} (h : wf m) (a : Nat) (bs : List Byte) : wf (program m a bs) := by
  induction bs generalizing m a with
  | nil => exact h
  | cons b bs ih => exact ih (put_wf h _ _) _

theorem programFailed_wf {m : Memory} (h : wf m) (a n k : Nat) : wf (programFailed m a n k) := by
  induction n generalizing m a k with
  | zero => exact h
  | succ n ih => exact ih (put_wf h _ _) _ _

theorem programTorn_wf {m : Memory} (h : wf m) (a : Nat) (bs : List Byte) (k : Nat) : wf (programTorn m a bs k) := by
  induction bs generalizing m a k with
  | nil => exact h
  | cons b bs ih => exact ih (put_wf h _ _) _ _

theorem store_wf {m : Memory} (h : wf m) (a : Nat) (bs : List Byte) : wf (store m a bs) := by
  induction bs generalizing m a with
  | nil => exact h
  | cons b bs ih => exact ih (put_wf h _ _) _

theorem erase_wfAbove {m : Memory} (a n : Nat) : ∀ {lo : Option Nat}, wfAbove lo m → wfAbove lo (erase m a n) := by
  induction m with
  | nil => intro _ h; exact h
  | cons c m ih =>
    obtain ⟨k, v⟩ := c
    intro lo h
    simp only [wfAbove, Bool.and_eq_true, bne_iff_ne, ne_eq] at h
    have ih' := ih h.2
    unfold erase at ih' ⊢
    rw [List.filter_cons]
    split
    · simp [wfAbove, h.1.1, h.1.2, ih']
    · exact wfAbove_mono ih' (by cases lo <;> simp_all; omega)

/-- An erase keeps the canonical form. -/
theorem erase_wf {m : Memory} (h : wf m) (a n : Nat) : wf (erase m a n) := erase_wfAbove a n h

/-- An erased byte reads FFh, every other byte as before. -/
theorem read_erase (m : Memory) (a n x : Nat) :
    read (erase m a n) x = if a ≤ x ∧ x < a + n then erasedByte else read m x := by
  induction m with
  | nil => simp [erase, read]
  | cons c m ih =>
    obtain ⟨k, v⟩ := c
    unfold erase at ih ⊢
    rw [List.filter_cons]
    by_cases hk : k < a ∨ a + n ≤ k
    · simp only [hk, if_true, read, Bool.or_eq_true, decide_eq_true_eq]
      by_cases hx : x = k
      · subst hx
        have : ¬ (a ≤ x ∧ x < a + n) := by omega
        simp [this]
      · simp only [hx, if_false]
        simpa using ih
    · have hk' : (decide (k < a) || decide (a + n ≤ k)) = false := by simpa using hk
      simp only [hk', Bool.false_eq_true, if_false, read]
      by_cases hx : x = k
      · subst hx
        have hin : a ≤ x ∧ x < a + n := by omega
        rw [ih]
        simp [hin]
      · simp only [hx, if_false]
        exact ih

/-- A program leaves the bytes outside its own alone. -/
theorem read_program_outside (m : Memory) (a : Nat) (bs : List Byte) {x : Nat} (hx : x < a ∨ a + bs.length ≤ x) :
    read (program m a bs) x = read m x := by
  induction bs generalizing m a with
  | nil => rfl
  | cons b bs ih =>
    simp only [List.length_cons] at hx
    rw [program, ih _ _ (by omega), read_put_ne _ _ (by omega)]

/-- A program writes each of its bytes over what the byte read before: bits change from 1 to 0 only. -/
theorem read_program_inside {m : Memory} (h : wf m) (a : Nat) (bs : List Byte) {i : Nat} (hi : i < bs.length) :
    read (program m a bs) (a + i) = read m (a + i) &&& bs[i] := by
  induction bs generalizing m a i with
  | nil => simp at hi
  | cons b bs ih =>
    rw [program]
    cases i with
    | zero =>
      rw [read_program_outside _ _ _ (by omega)]
      simpa using read_put_self _ _ h
    | succ i =>
      have := ih (put_wf h a (read m a &&& b)) (a + 1) (i := i) (by simpa using hi)
      rw [show a + (i + 1) = a + 1 + i by omega, this, read_put_ne _ _ (by omega)]
      simp

theorem read_programFailed_outside (m : Memory) (a n k : Nat) {x : Nat} (hx : x < a ∨ a + n ≤ x) :
    read (programFailed m a n k) x = read m x := by
  induction n generalizing m a k with
  | zero => rfl
  | succ n ih => rw [programFailed, ih _ _ _ (by omega), read_put_ne _ _ (by omega)]

/-- A program that ended FAIL leaves a free value over what each of its bytes read before. -/
theorem read_programFailed_inside {m : Memory} (h : wf m) (a n k : Nat) {i : Nat} (hi : i < n) :
    read (programFailed m a n k) (a + i) = read m (a + i) &&& Config.freeByte (k + i) := by
  induction n generalizing m a k i with
  | zero => simp at hi
  | succ n ih =>
    rw [programFailed]
    cases i with
    | zero =>
      rw [read_programFailed_outside _ _ _ _ (by omega)]
      simpa using read_put_self _ _ h
    | succ i =>
      have := ih (put_wf h a (read m a &&& Config.freeByte k)) (a + 1) (k + 1) (i := i) (by omega)
      rw [show a + (i + 1) = a + 1 + i by omega, this, read_put_ne _ _ (by omega)]
      simp only [show k + 1 + i = k + (i + 1) by omega]

theorem read_programTorn_outside (m : Memory) (a : Nat) (bs : List Byte) (k : Nat) {x : Nat}
    (hx : x < a ∨ a + bs.length ≤ x) : read (programTorn m a bs k) x = read m x := by
  induction bs generalizing m a k with
  | nil => rfl
  | cons b bs ih =>
    simp only [List.length_cons] at hx
    rw [programTorn, ih _ _ _ (by omega), read_put_ne _ _ (by omega)]

/-- A torn program leaves a mixture of programmed and unprogrammed bits. -/
theorem read_programTorn_inside {m : Memory} (h : wf m) (a : Nat) (bs : List Byte) (k : Nat) {i : Nat}
    (hi : i < bs.length) :
    read (programTorn m a bs k) (a + i) = read m (a + i) &&& (bs[i] ||| Config.freeByte (k + i)) := by
  induction bs generalizing m a k i with
  | nil => simp at hi
  | cons b bs ih =>
    rw [programTorn]
    cases i with
    | zero =>
      rw [read_programTorn_outside _ _ _ _ (by omega)]
      simpa using read_put_self _ _ h
    | succ i =>
      have := ih (put_wf h a (read m a &&& (b ||| Config.freeByte k))) (a + 1) (k + 1) (i := i) (by simpa using hi)
      rw [show a + (i + 1) = a + 1 + i by omega, this, read_put_ne _ _ (by omega)]
      simp only [List.getElem_cons_succ, show k + 1 + i = k + (i + 1) by omega]

theorem read_store_outside (m : Memory) (a : Nat) (bs : List Byte) {x : Nat} (hx : x < a ∨ a + bs.length ≤ x) :
    read (store m a bs) x = read m x := by
  induction bs generalizing m a with
  | nil => rfl
  | cons b bs ih =>
    simp only [List.length_cons] at hx
    rw [store, ih _ _ (by omega), read_put_ne _ _ (by omega)]

/-- Bytes put read back. -/
theorem read_store_inside {m : Memory} (h : wf m) (a : Nat) (bs : List Byte) {i : Nat} (hi : i < bs.length) :
    read (store m a bs) (a + i) = bs[i] := by
  induction bs generalizing m a i with
  | nil => simp at hi
  | cons b bs ih =>
    rw [store]
    cases i with
    | zero =>
      rw [read_store_outside _ _ _ (by omega)]
      simpa using read_put_self a b h
    | succ i =>
      have := ih (put_wf h a b) (a + 1) (i := i) (by simpa using hi)
      rw [show a + (i + 1) = a + 1 + i by omega, this]
      simp

theorem readBytes_length (m : Memory) (a n : Nat) : (readBytes m a n).length = n := by
  induction n generalizing a with
  | zero => rfl
  | succ n ih => simp [readBytes, ih]

theorem readBytes_getElem (m : Memory) (a n : Nat) {i : Nat} (hi : i < (readBytes m a n).length) :
    (readBytes m a n)[i] = read m (a + i) := by
  induction n generalizing a i with
  | zero => simp [readBytes] at hi
  | succ n ih =>
    cases i with
    | zero => simp [readBytes]
    | succ i => simp [readBytes, ih, show a + 1 + i = a + (i + 1) by omega]

/-- The bytes put read back together. -/
theorem readBytes_store {m : Memory} (h : wf m) (a : Nat) (bs : List Byte) : readBytes (store m a bs) a bs.length = bs := by
  apply List.ext_getElem (readBytes_length _ _ _)
  intro i h1 h2
  rw [readBytes_getElem, read_store_inside h a bs h2]

end Memory

/-! ## What an erase that does not end PASS leaves -/

@[simp] theorem freeBytes_length (n k : Nat) : (freeBytes n k).length = n := by
  induction n generalizing k with
  | zero => rfl
  | succ n ih => simp [freeBytes, ih]

theorem cutRingErase_length {bs : List Byte} (h : 10 ≤ bs.length) : (cutRingErase bs).length = bs.length := by
  unfold cutRingErase
  split
  · rfl
  · simp [brokenHeader]; omega

theorem cutConfigErase_length {bs : List Byte} (h : 1 ≤ bs.length) : (cutConfigErase bs).length = bs.length := by
  unfold cutConfigErase
  split
  · simp; omega
  · rfl

/-- Whatever the unknown bytes are, RING_SCAN finds a sector whose erase was cut short SPOILED, or every byte of it FFh
(R98, R130). -/
theorem erasedOrSpoiled_cutRingErase (bs : List Byte) : erasedOrSpoiled (cutRingErase bs) = true := by
  unfold cutRingErase
  split
  · assumption
  · have h : classifyHeader ((brokenHeader ++ bs.drop brokenHeader.length).take slotSize) = .settled .spoiled := by
      rw [List.take_append]
      rfl
    simp [erasedOrSpoiled, h]

/-- Whatever the unknown bytes are, no image is found in a config sector whose erase was torn (R111). -/
theorem parseImage_cutConfigErase (bs : List Byte) : parseImage ((cutConfigErase bs).take (4 * slotSize)) = none := by
  unfold cutConfigErase
  split
  · rfl
  · rename_i hx
    simpa using hx

theorem tornErase_length (k : Sector) {bs : List Byte} (h : 10 ≤ bs.length) : (tornErase k bs).length = bs.length := by
  cases k
  · exact cutConfigErase_length (by omega)
  · exact cutRingErase_length h

theorem abortedErase_length (k : Sector) {bs : List Byte} (h : 10 ≤ bs.length) : (abortedErase k bs).length = bs.length := by
  cases k
  · rfl
  · exact cutRingErase_length h

/-- A torn program of an image's slot is the completed program, or leaves an image whose CRC does not match (R104). -/
theorem cutImageProgram_spec (torn completed : Memory) (k : Sector) :
    cutImageProgram torn completed k = completed ∨
      (cutImageProgram torn completed k = torn ∧ imageCrcMatches (torn.imageBytesAt k) = false) := by
  unfold cutImageProgram
  cases h : imageCrcMatches (torn.imageBytesAt k) <;> simp

theorem cutImageProgram_wf {torn completed : Memory} (ht : Memory.wf torn) (hc : Memory.wf completed) (k : Sector) :
    Memory.wf (cutImageProgram torn completed k) := by
  unfold cutImageProgram
  split
  · exact hc
  · exact ht

/-- A config sector whose image's CRC does not match holds no valid image (R104). -/
theorem parseImage_of_crc {bs : List Byte} (h : imageCrcMatches bs = false) : parseImage bs = none := by
  simp [parseImage, h]

namespace State

/-- What leaving a sector unknown does: it reads as `f` makes the bytes drawn, every other address as before. -/
theorem scramble_spec {s : State} (h : Memory.wf s.array) (k : Sector) (f : List Byte → List Byte)
    (hf : (f (freeBytes sectorSize s.free)).length = sectorSize) :
    Memory.wf (s.scramble k f).array ∧
      Memory.readBytes (s.scramble k f).array (slotAddress k 0) sectorSize = f (freeBytes sectorSize s.free) ∧
      ∀ a, a < slotAddress k 0 ∨ slotAddress k 0 + sectorSize ≤ a →
        Memory.read (s.scramble k f).array a = Memory.read s.array a := by
  simp only [scramble, setFree_array, setArray_array]
  refine ⟨Memory.store_wf h _ _, ?_, fun a ha => Memory.read_store_outside _ _ _ (by omega)⟩
  have := Memory.readBytes_store h (slotAddress k 0) (f (freeBytes sectorSize s.free))
  rwa [hf] at this

/-- After a torn erase of a ring sector RING_SCAN finds it SPOILED, or every byte of it FFh (R98; log 29: DEDUCED). -/
theorem tear_erasedOrSpoiled {s : State} (h : Memory.wf s.array) {op : Operation} {r : RingSector}
    (hop : s.store.op = some op) (ht : op.task = .ringErase) (hs : op.sector = .ring r) :
    erasedOrSpoiled (Memory.readBytes s.tear.array (slotAddress (.ring r) 0) sectorSize) = true := by
  have hf : (tornErase (.ring r) (freeBytes sectorSize s.free)).length = sectorSize := by
    rw [tornErase_length _ (by simp [sectorSize]), freeBytes_length]
  have e : s.tear.array = (s.scramble (.ring r) (tornErase (.ring r))).array := by
    simp only [tear, hop, ht, hs]
    rfl
  rw [e, (scramble_spec h _ _ hf).2.1]
  exact erasedOrSpoiled_cutRingErase _

/-- After an aborted erase of a ring sector RING_SCAN finds it SPOILED, or every byte of it FFh (R130; log 29: DEDUCED). -/
theorem endErase_aborted_erasedOrSpoiled {s : State} (h : Memory.wf s.array) {op : Operation} {r : RingSector}
    (hs : op.sector = .ring r) :
    erasedOrSpoiled (Memory.readBytes (s.endErase op .aborted).array (slotAddress (.ring r) 0) sectorSize) = true := by
  have hf : (abortedErase (.ring r) (freeBytes sectorSize s.free)).length = sectorSize := by
    rw [abortedErase_length _ (by simp [sectorSize]), freeBytes_length]
  have e : (s.endErase op .aborted).array = (s.scramble (.ring r) (abortedErase (.ring r))).array := by
    simp only [endErase, hs]
    rfl
  rw [e, (scramble_spec h _ _ hf).2.1]
  exact erasedOrSpoiled_cutRingErase _

/-- The end of a program keeps the canonical form of the array. -/
theorem endProgram_wf {s : State} (h : Memory.wf s.array) (op : Operation) (o : ProgramOutcome) :
    Memory.wf (s.endProgram op o).array := by
  cases o
  · exact Memory.program_wf h _ _
  · exact Memory.programFailed_wf h _ _ _

/-- Leaving a sector unknown keeps the canonical form of the array. -/
theorem scramble_wf {s : State} (h : Memory.wf s.array) (k : Sector) (f : List Byte → List Byte) :
    Memory.wf (s.scramble k f).array := Memory.store_wf h _ _

/-- The end of an erase keeps the canonical form of the array. -/
theorem endErase_wf {s : State} (h : Memory.wf s.array) (op : Operation) (o : EraseOutcome) :
    Memory.wf (s.endErase op o).array := by
  cases o
  all_goals
    unfold endErase
    simp only [setOp, setStore_array, setArray_array]
    with_reducible first | exact Memory.erase_wf h _ _ | exact scramble_wf h _ _

/-- A tear keeps the canonical form of the array. -/
theorem tear_wf {s : State} (h : Memory.wf s.array) : Memory.wf s.tear.array := by
  unfold tear
  split
  · exact h
  · split
    all_goals
      simp only [setOp, setStore_array, setFree_array, setArray_array]
      with_reducible first
        | exact h
        | exact scramble_wf h _ _
        | exact Memory.programTorn_wf h _ _ _
        | exact cutImageProgram_wf (Memory.programTorn_wf h _ _ _) (Memory.program_wf h _ _) _

end State

end Sys2Proof.Machine
end

