-- ==== Sys2Proof/Laws/PerInstr.lean ====
section
/-! SUPPORT. Per command: a well-formed execution's payload fits a frame (10, 10.2). -/

namespace Sys2Proof.Laws.PayloadFits

open Sys2Proof Sys2Proof.Machine

/-- A well-formed command's request, if it carries one, has a payload a frame can carry. -/
def Statement (i : Instr) : Prop := i.wellFormed = true → ∀ k t p, i.request? = some (k, t, p) → p.length ≤ 60

theorem powerOn (levels : PinLevels) : Statement (.powerOn levels) := by
  intro _ _ _ _ hr
  exact nomatch hr

theorem resetLineActive : Statement .resetLineActive := by
  intro _ _ _ _ hr
  exact nomatch hr

theorem resetRelease : Statement .resetRelease := by
  intro _ _ _ _ hr
  exact nomatch hr

theorem supplyLoss : Statement .supplyLoss := by
  intro _ _ _ _ hr
  exact nomatch hr

theorem tick : Statement .tick := by
  intro _ _ _ _ hr
  exact nomatch hr

theorem secondEvent : Statement .secondEvent := by
  intro _ _ _ _ hr
  exact nomatch hr

theorem synchronisedLevelChange (pin : Pin) (level : Level) : Statement (.synchronisedLevelChange pin level) := by
  intro _ _ _ _ hr
  exact nomatch hr

theorem filteredLevelChange (channel : Channel) : Statement (.filteredLevelChange channel) := by
  intro _ _ _ _ hr
  exact nomatch hr

theorem tselFilteredChange : Statement .tselFilteredChange := by
  intro _ _ _ _ hr
  exact nomatch hr

theorem intervalTimerExpiry : Statement .intervalTimerExpiry := by
  intro _ _ _ _ hr
  exact nomatch hr

theorem svcFilteredChange : Statement .svcFilteredChange := by
  intro _ _ _ _ hr
  exact nomatch hr

theorem idleTimerExpiry : Statement .idleTimerExpiry := by
  intro _ _ _ _ hr
  exact nomatch hr

theorem pfailActive : Statement .pfailActive := by
  intro _ _ _ _ hr
  exact nomatch hr

theorem pfailInactive : Statement .pfailInactive := by
  intro _ _ _ _ hr
  exact nomatch hr

theorem resumeTimerExpiry : Statement .resumeTimerExpiry := by
  intro _ _ _ _ hr
  exact nomatch hr

theorem scanReadEnd : Statement .scanReadEnd := by
  intro _ _ _ _ hr
  exact nomatch hr

theorem recordProgramEnd (outcome : ProgramOutcome) : Statement (.recordProgramEnd outcome) := by
  intro _ _ _ _ hr
  exact nomatch hr

theorem confirmProgramEnd (outcome : ProgramOutcome) : Statement (.confirmProgramEnd outcome) := by
  intro _ _ _ _ hr
  exact nomatch hr

theorem epochProgramEnd (outcome : ProgramOutcome) : Statement (.epochProgramEnd outcome) := by
  intro _ _ _ _ hr
  exact nomatch hr

theorem copyReadEnd : Statement .copyReadEnd := by
  intro _ _ _ _ hr
  exact nomatch hr

theorem retireProgramEnd (outcome : ProgramOutcome) : Statement (.retireProgramEnd outcome) := by
  intro _ _ _ _ hr
  exact nomatch hr

theorem eraseEnd (outcome : EraseOutcome) : Statement (.eraseEnd outcome) := by
  intro _ _ _ _ hr
  exact nomatch hr

theorem countProgramEnd (outcome : ProgramOutcome) : Statement (.countProgramEnd outcome) := by
  intro _ _ _ _ hr
  exact nomatch hr

theorem configEraseEnd (outcome : EraseOutcome) : Statement (.configEraseEnd outcome) := by
  intro _ _ _ _ hr
  exact nomatch hr

theorem imageProgramEnd (outcome : ProgramOutcome) : Statement (.imageProgramEnd outcome) := by
  intro _ _ _ _ hr
  exact nomatch hr

theorem slotReadEnd : Statement .slotReadEnd := by
  intro _ _ _ _ hr
  exact nomatch hr

theorem requestFrame (last : Byte) : Statement (.requestFrame last) := by
  intro _ _ _ _ hr
  exact nomatch hr

theorem gapTimerExpiry : Statement .gapTimerExpiry := by
  intro _ _ _ _ hr
  exact nomatch hr

theorem replySent : Statement .replySent := by
  intro _ _ _ _ hr
  exact nomatch hr

theorem ping (tag : Byte) (payload : List Byte) : Statement (.ping tag payload) := by
  intro h _ _ _ hr
  cases hr
  exact of_decide_eq_true h

theorem getStatus (tag : Byte) (payload : List Byte) : Statement (.getStatus tag payload) := by
  intro h _ _ _ hr
  cases hr
  exact of_decide_eq_true h

theorem readChannel (tag : Byte) (payload : List Byte) : Statement (.readChannel tag payload) := by
  intro h _ _ _ hr
  cases hr
  exact of_decide_eq_true h

theorem readCommitted (tag : Byte) (payload : List Byte) : Statement (.readCommitted tag payload) := by
  intro h _ _ _ hr
  cases hr
  exact of_decide_eq_true h

theorem getStoreMap (tag : Byte) (payload : List Byte) : Statement (.getStoreMap tag payload) := by
  intro h _ _ _ hr
  cases hr
  exact of_decide_eq_true h

theorem readSlot (tag : Byte) (payload : List Byte) : Statement (.readSlot tag payload) := by
  intro h _ _ _ hr
  cases hr
  exact of_decide_eq_true h

theorem setTariff (tag : Byte) (payload : List Byte) : Statement (.setTariff tag payload) := by
  intro h _ _ _ hr
  cases hr
  exact of_decide_eq_true h

theorem commit (tag : Byte) (payload : List Byte) : Statement (.commit tag payload) := by
  intro h _ _ _ hr
  cases hr
  exact of_decide_eq_true h

theorem fetchNotice (tag : Byte) (payload : List Byte) : Statement (.fetchNotice tag payload) := by
  intro h _ _ _ hr
  cases hr
  exact of_decide_eq_true h

theorem ackNotice (tag : Byte) (payload : List Byte) : Statement (.ackNotice tag payload) := by
  intro h _ _ _ hr
  cases hr
  exact of_decide_eq_true h

theorem setNoticeMask (tag : Byte) (payload : List Byte) : Statement (.setNoticeMask tag payload) := by
  intro h _ _ _ hr
  cases hr
  exact of_decide_eq_true h

theorem openService (tag : Byte) (payload : List Byte) : Statement (.openService tag payload) := by
  intro h _ _ _ hr
  cases hr
  exact of_decide_eq_true h

theorem closeService (tag : Byte) (payload : List Byte) : Statement (.closeService tag payload) := by
  intro h _ _ _ hr
  cases hr
  exact of_decide_eq_true h

theorem stageChannel (tag : Byte) (payload : List Byte) : Statement (.stageChannel tag payload) := by
  intro h _ _ _ hr
  cases hr
  exact of_decide_eq_true h

theorem stageGlobals (tag : Byte) (payload : List Byte) : Statement (.stageGlobals tag payload) := by
  intro h _ _ _ hr
  cases hr
  exact of_decide_eq_true h

theorem readConfig (tag : Byte) (payload : List Byte) : Statement (.readConfig tag payload) := by
  intro h _ _ _ hr
  cases hr
  exact of_decide_eq_true h

theorem applyConfig (tag : Byte) (payload : List Byte) : Statement (.applyConfig tag payload) := by
  intro h _ _ _ hr
  cases hr
  exact of_decide_eq_true h

theorem discardStaged (tag : Byte) (payload : List Byte) : Statement (.discardStaged tag payload) := by
  intro h _ _ _ hr
  cases hr
  exact of_decide_eq_true h

theorem loadTotals (tag : Byte) (payload : List Byte) : Statement (.loadTotals tag payload) := by
  intro h _ _ _ hr
  cases hr
  exact of_decide_eq_true h

theorem restart (tag : Byte) (payload : List Byte) : Statement (.restart tag payload) := by
  intro h _ _ _ hr
  cases hr
  exact of_decide_eq_true h

theorem unknownKind (kind : Byte) (tag : Byte) (payload : List Byte) : Statement (.unknownKind kind tag payload) := by
  intro h _ _ _ hr
  cases hr
  exact of_decide_eq_true ((Bool.and_eq_true _ _ ▸ h).1)

theorem characterReceived (byte : Byte) (framingError : Bool) : Statement (.characterReceived byte framingError) := by
  intro _ _ _ _ hr
  exact nomatch hr

end Sys2Proof.Laws.PayloadFits
end

