-- ==== Sys2Proof/Laws/Requests.lean ====
section
/-! SUPPORT. What the executor does with the request it takes next: one lemma for the answer and one for the link's checks. -/

namespace Sys2Proof.Machine

/-- A reply in RUN stands at the tail of the reply queue, the transmitter is sending, and nothing else changes
(R165, R166). -/
theorem reply_eq_answered (s : State) (k : RequestKind) (tag : Byte) (a : Answer) (run : s.power.device = .run) :
    s.reply k tag a = s.answered s.link.requests k.code tag a.status a.payload := by
  simp only [State.reply, State.answer, State.enqueueReply, State.startTransmitter, State.setLink, State.answered,
    Reply.answering, run]
  cases h : s.link.transmitting <;> simp_all

/-- A request of a kind at the queue head leaves the queue and has its effect, or a BAD_LENGTH reply (R162, R163). -/
theorem executeAs_atHead (s : State) (k : RequestKind) (tag : Byte) (p : List Byte) (rest : List Request)
    (effect : State → State) (h : AtHead s k.code tag p rest) :
    s.executeAs k tag p effect =
      if p.length = k.payloadLength then effect { s with link := { s.link with requests := rest } }
      else s.answered rest k.code tag .badLength [] := by
  have hb := reply_eq_answered { s with link := { s.link with requests := rest } } k tag (Answer.refuse .badLength) h.run
  simp only [State.executeAs, State.atHead, State.isRun, h.run, h.head, State.executeKnown, State.popRequest,
    State.setLink, State.refuse, List.head?_cons, List.tail_cons, beq_self_eq_true, Bool.and_self, if_true]
  rw [hb]
  rfl

/-- A request whose kind, tag and payload are not those of the queue head is no happening (log 4: DESIGN CHOICE, log 10: DESIGN CHOICE). -/
theorem executeAs_elsewhere (s : State) (k : RequestKind) (tag : Byte) (p : List Byte) (effect : State → State)
    (h : s.atHead { kind := k.code, tag := tag, payload := p } = false) : s.executeAs k tag p effect = s := by
  simp [State.executeAs, h]

/-- With both entries of the host job table taken, none is free (R163). -/
theorem freeJobSlot_of_jobsFull (s : State) (h : s.jobsFull) : s.freeJobSlot? = none := by
  obtain ⟨h1, h2⟩ := h
  have a : s.link.jobs.any (fun j => j.slot == .first) = true := by simpa using h1
  have b : s.link.jobs.any (fun j => j.slot == .second) = true := by simpa using h2
  simp only [State.freeJobSlot?, a, b, Bool.not_true, Bool.false_eq_true, if_false]

/-- The entry a new job takes is the first that is free (R163; log 20: DESIGN CHOICE). -/
theorem freeJobSlot_of_freeJob (s : State) (w : JobSlot) (h : s.freeJob w) : s.freeJobSlot? = some w := by
  obtain ⟨h1, h2⟩ := h
  cases w with
  | first =>
    have a : s.link.jobs.any (fun j => j.slot == .first) = false := by simpa using h1
    simp only [State.freeJobSlot?, a, Bool.not_false, if_true]
  | second =>
    have a : s.link.jobs.any (fun j => j.slot == .first) = true := by simpa using h2 rfl
    have b : s.link.jobs.any (fun j => j.slot == .second) = false := by simpa using h1
    simp only [State.freeJobSlot?, a, b, Bool.not_true, Bool.false_eq_true, if_false, Bool.not_false, if_true]

end Sys2Proof.Machine
end

