-- ==== Sys2Proof/Tests/Slice0.lean ====
section
/-! SUPPORT. Tests: what the checks refuse, small steps whose results are the spec's own examples and tables, and for every
statement with hypotheses a concrete state that meets them, clause by clause. -/

namespace Sys2Proof.Tests

open Sys2Proof.Machine

-- One theorem at a time: many kernel evaluations waiting at once each hold a thread's stack.
set_option Elab.async false

/-! ## Small states -/

/-- A part in RUN with an erased ring, nothing pending and nothing counted. -/
def run : State :=
  { State.reset with
    power := { State.reset.power with device := .run }
    capture := { State.reset.capture with state := .live }
    store := Store.initial
    scan := { Scan.initial with step := .done } }

/-- The same part with another device state. -/
def dev (d : Device) : State :=
  { State.reset with power := { State.reset.power with device := d }, store := Store.initial }

/-- A ring sector's state set. -/
def sector (r : RingSector) (x : SectorState) (s : State) : State :=
  { s with store := { s.store with table := s.store.table.set r { s.store.table.get r with state := x } } }

/-- Every ring sector in one state. -/
def all (x : SectorState) (s : State) : State :=
  { s with store := { s.store with table := PerRing.all { state := x, eraseCount := 0, mapRecords := 0 } } }

/-- An array operation of a task. -/
def opOf (t : Task) : Operation :=
  { task := t, sector := .ring .s2, slot := 1, offset := 0, bytes := [1, 2], aborting := false }

/-- An array operation in progress. -/
def busy (op : Operation) (s : State) : State := { s with store := { s.store with op := some op } }

/-- A job holds the array. -/
def held (h : Hold) (s : State) : State := { s with store := { s.store with holder := some h } }

/-- A commit job of CH0. -/
def commitJob (k : Cause) : CommitJob :=
  { channel := .ch0
    snapshot := { buckets := PerTariff.all 0, lost := 0, version := 1, delta := 5, tariff := .t0 }
    cause := k, waiters := [] }

/-- A commit's hold of the array, with slot 1 of sector 2. -/
def commitHold (k : Cause) (attempts : Nat) : Hold :=
  { job := .commit (commitJob k), attempts := attempts, place := some { sector := .s2, slot := 1 }, sequence := 1
    fault := some .s2 }

/-- A copy's hold of the array. -/
def copyHold : Hold :=
  { job := .copy { channel := .ch0, target := .s3, tariff := .t0, buckets := PerTariff.all 0, lost := 0 }
    attempts := 0, place := some { sector := .s2, slot := 1 }, sequence := 1, fault := none }

/-- A copy's hold while its record is read. -/
def readingHold : Hold :=
  { job := .reading .ch0 .s3, attempts := 0, place := none, sequence := 0, fault := none }

/-- CH0 is dirty. -/
def dirty (s : State) : State :=
  { s with
    accum :=
      { s.accum with
        accounts := s.accum.accounts.set .ch0 { buckets := PerTariff.all 0, delta := 5, version := 1 } } }

/-- CH0 has a record in a sector. -/
def recorded (r : RingSector) (s : State) : State :=
  { s with
    store :=
      { s.store with
        map := s.store.map.set .ch0
          { designated := some { location := { sector := r, slot := 1 }, sequence := 1 }, buckets := PerTariff.all 0
            lost := 0, version := 0 } } }

/-- Commit queue entries. -/
def queue (q : List QueueEntry) (s : State) : State := { s with sched := { s.sched with queue := q } }

/-- CH0's entry. -/
def entry0 : QueueEntry := { channel := .ch0, cause := .interval, waiters := [] }

/-- Host jobs. -/
def jobs (js : List HostJob) (s : State) : State :=
  { s with link := { s.link with jobs := js, credits := js.length } }

/-- A host job in the first entry. -/
def job (x : JobState) : HostJob := { slot := .first, tag := 7, state := x }

/-- Two host jobs. -/
def twoJobs : List HostJob := [job (.loadWait .ch0), { slot := .second, tag := 8, state := .loadWait .ch1 }]

/-- A request is the one the executor takes next. -/
def asked (kind : Byte) (p : List Byte) (s : State) : State :=
  { s with
    link := { s.link with requests := [{ kind := kind, tag := 7, payload := p }], credits := s.link.credits + 1 } }

/-- The session is OPEN and SVC active. -/
def serviced (s : State) : State :=
  { s with service := { s.service with session := .opened 0, svcSync := true, svcFiltered := true } }

/-- Replies wait and the first is being sent. -/
def replying (rs : List Reply) (s : State) : State :=
  { s with link := { s.link with replies := rs, transmitting := true, credits := rs.length } }

/-- The reply to a PING. -/
def pinged : Reply := { kind := 0x81, tag := 7, status := 0, payload := [] }

/-- The reply to a RESTART. -/
def restarted : Reply := { kind := 0xB0, tag := 7, status := 0, payload := [] }

/-- The receiver stands in a state. -/
def receiving (r : Receiver) (s : State) : State :=
  { s with link := { s.link with receiver := r, gap := some 4 } }

/-- The next state of a command, for reading one field of it. -/
def after (c : Instr) (s : State) : State :=
  match exec c s with
  | .next t => t
  | _ => s

/-! ## Well-formed commands -/

theorem test_payload_of_61_bytes_is_refused : (Instr.ping 0 (List.replicate 61 0)).wellFormed = false := by decide

theorem test_payload_of_60_bytes_is_accepted : (Instr.ping 0 (List.replicate 60 0)).wellFormed = true := by decide

theorem test_unknownKind_naming_a_kind_is_refused : (Instr.unknownKind 0x30 0 []).wellFormed = false := by decide

theorem test_unknownKind_is_accepted : (Instr.unknownKind 0x31 0 []).wellFormed = true := by decide

theorem test_unknownKind_with_a_long_payload_is_refused :
    (Instr.unknownKind 0x31 0 (List.replicate 61 0)).wellFormed = false := by decide

/-- The table's rows give no bits, so no word spells a command. -/
theorem test_no_word_decodes : decodeTableWord 16 0 = none := rfl

/-! ## The spec's own examples -/

/-- R188: the CRC of the nine characters 123456789 is 29B1h. -/
theorem test_crc_of_the_check_string : crc16 [0x31, 0x32, 0x33, 0x34, 0x35, 0x36, 0x37, 0x38, 0x39] = 0x29B1 := by
  decide +kernel

/-- R171, R178: the numbers of the tariffs. -/
theorem test_tariff_numbers : [Tariff.t0, .t1, .t2, .t3].map Tariff.toNat = [0, 1, 2, 3] := rfl

/-- A LIVE channel with a setting, a synchronised and a filtered level and a run. -/
def channel (c : Channel) (g : ChannelConfig) (k : CaptureChannel) (s : State) : State :=
  { s with
    config := { s.config with live := { s.config.live with channels := s.config.live.channels.set c g } }
    capture := { s.capture with channels := s.capture.channels.set c k } }

/-- 01, 1.9: CH3 EDGE, RISING, filter 2: at tick 104 the filtered level is HIGH and one count is made, which the tick's drain
takes. -/
theorem test_tick_104_counts_the_edge :
    let s := busy (opOf .slotRead) (channel .ch3 { mode := .edge, polarity := .rising, filter := 2, weight := 1, threshold := 0 }
      { sync := .high, run := 1, filtered := .low, pending := 0, lost := 0 } run)
    let t := after .tick s
    (t.capture.channels.c3.filtered, t.capture.channels.c3.run, t.accum.accounts.c3.buckets.t0) = (.high, 0, 1) := by
  decide +kernel

/-- 01, 1.9: a spike of one tick leaves the run at 1 and counts nothing. -/
theorem test_tick_101_counts_nothing :
    let s := busy (opOf .slotRead) (channel .ch3 { mode := .edge, polarity := .rising, filter := 2, weight := 1, threshold := 0 }
      { sync := .high, run := 0, filtered := .low, pending := 0, lost := 0 } run)
    let t := after .tick s
    (t.capture.channels.c3.filtered, t.capture.channels.c3.run, t.accum.accounts.c3.buckets.t0) = (.low, 1, 0) := by
  decide +kernel

/-- 01, 1.9: edge 256 of CH5 is lost: the pending count stays 255, the lost-edge count rises from 12 to 13, LOST_EDGES is
pending with count 1. -/
theorem test_edge_256_is_lost :
    let s := channel .ch5 { mode := .edge, polarity := .rising, filter := 0, weight := 1, threshold := 0 }
      { sync := .low, run := 0, filtered := .low, pending := 255, lost := 12 } run
    let t := after (.synchronisedLevelChange (.channel .ch5) .high) s
    (t.capture.channels.c5.pending, t.capture.channels.c5.lost, t.notices.records.lostEdges) =
      (255, 13, { pending := true, count := 1, detail := .channels 0x20 }) := by
  decide +kernel

/-- CH6 with T2 active and its bucket near 2^40, and 3,000 units pending. -/
def nearWrap : State :=
  let s := channel .ch6 { mode := .edge, polarity := .rising, filter := 0, weight := 30, threshold := 0 }
    { sync := .low, run := 0, filtered := .low, pending := 100, lost := 0 } run
  { s with
    accum :=
      { s.accum with
        tariff := .t2
        accounts := s.accum.accounts.set .ch6
          { buckets := { t0 := 0, t1 := 0, t2 := 1099511626000, t3 := 0 }, delta := 0, version := 0 } } }

/-- R20: 3,000 units into 1,099,511,626,000 leave 1,224 and raise ROLLOVER with CH6 and T2. -/
theorem test_rollover_leaves_1224 :
    let t := nearWrap.drainCounts .ch6
    (t.accum.accounts.c6.buckets.t2, t.accum.accounts.c6.delta, t.notices.records.rollover.detail) =
      (1224, 3000, .rollover 0x40 0x4) := by
  decide +kernel

/-- 02, 2.9: SET_TARIFF to T1 with CH2 dirty and 3 counts of weight 5 pending: T0 is 1,015, delta 55, live version 18, and CH2 is
queued with cause TARIFF. -/
theorem test_set_tariff_example :
    let s := channel .ch2 { mode := .edge, polarity := .rising, filter := 0, weight := 5, threshold := 0 }
      { sync := .low, run := 0, filtered := .low, pending := 3, lost := 0 } run
    let s : State :=
      { s with
        accum :=
          { s.accum with
            accounts := s.accum.accounts.set .ch2
              { buckets := { t0 := 1000, t1 := 0, t2 := 0, t3 := 0 }, delta := 40, version := 17 } }
        store :=
          { s.store with map := s.store.map.set .ch2 { MapEntry.none with version := 15 } } }
    let t := after (.setTariff 7 [1]) (asked 0x10 [1] (busy (opOf .slotRead) s))
    (t.accum.tariff, t.accum.accounts.c2, t.sched.queue) =
      (.t1, { buckets := { t0 := 1015, t1 := 0, t2 := 0, t3 := 0 }, delta := 55, version := 18 },
        [{ channel := .ch2, cause := .tariff, waiters := [] }]) := by
  decide +kernel

/-- R172: PING's identity, and the frame of its reply around it (R190). -/
theorem test_ping_reply :
    (after (.ping 7 []) (asked 0x01 [] run)).link.replies.map (fun r => r.frame.take 12) =
      [[0xC3, 10, 0x81, 7, 0, 0xC8, 0x12, 3, 1, 8, 4, 14]] := by
  decide +kernel

/-- 10, 10.10: with both host-job entries taken a READ_SLOT is answered JOBS_FULL, and the jobs stay. -/
theorem test_read_slot_jobs_full :
    let t := after (.readSlot 7 [5, 4]) (asked 0x06 [5, 4] (jobs twoJobs run))
    (t.link.replies, t.link.jobs) =
      ([{ kind := 0x86, tag := 7, status := 6, payload := [] }], twoJobs) := by
  decide +kernel

/-- 09, 9.7: POWER with detail POWER_ON is returned with an empty pending set, cleared, and the unit disarmed. -/
theorem test_fetch_power_on :
    let t := after (.fetchNotice 7 [0]) (asked 0x18 [0] (run.raise .power (.power (.started .powerOn))))
    (t.link.replies.map Reply.payload, t.notices.records.power, t.notices.armed) =
      ([[0, 1, 1, 0, 0]], NoticeRecord.clear, false) := by
  decide +kernel

/-- R173: GET_STATUS of an idle part with an erased ring: RUN, IDLE, 434 free record slots, 14 ERASED sectors, 1 credit, armed,
next sequence 1. -/
theorem test_get_status :
    (after (.getStatus 7 []) (asked 0x02 [] run)).link.replies.map Reply.payload =
      [[1, 1, 0, 0, 0, 0, 0, 0xB2, 1, 14, 0, 1, 0, 1, 0, 0, 0, 0, 0, 0, 1, 0, 0, 0]] := by
  decide +kernel

/-- R181: a mask that names POWER is answered without it. -/
theorem test_mask_drops_power :
    (after (.setNoticeMask 7 [0xFF]) (asked 0x1A [0xFF] run)).link.replies.map Reply.payload = [[0xFE]] := by
  decide +kernel

/-- R74: the third failed attempt raises STORE_FAULT with the sector and frees the array. -/
theorem test_third_failure_raises_store_fault :
    let t := after (.confirmProgramEnd .fail) (held (commitHold .interval 2) (busy (opOf .confirmProgram) run))
    (t.notices.records.storeFault.detail, t.store.holder) = (.sector 2, none) := by
  decide +kernel

/-- R93: a COUNT program that makes the erase count 100,000 leaves its sector WORN. -/
theorem test_count_100000_is_worn :
    let s := busy { opOf .countProgram with bytes := [] } run
    let s : State :=
      { s with
        engine := { s.engine with phase := .count .s2 }
        store :=
          { s.store with table := s.store.table.set .s2 { state := .retiring, eraseCount := 99999, mapRecords := 0 } } }
    let t := after (.countProgramEnd .pass) s
    t.store.table.s2 = { state := .worn, eraseCount := 100000, mapRecords := 0 } := by
  decide +kernel

/-- R129: nine ticks of PFAIL inactivity leave RETAIN standing, the tenth ends it. -/
theorem test_tenth_tick_ends_retain :
    let s : Nat → State := fun n => { dev .retain with power := { (dev .retain).power with resume := some n } }
    ((after .tick (s 8)).power.device, (after .tick (s 9)).power.device) = (.retain, .run) := by
  decide +kernel

/-- R156: a LEN of 63 discards the frame with LENGTH, one of 62 does not. -/
theorem test_length_63_is_discarded :
    ((after (.characterReceived 63 false) (receiving .length run)).notices.records.link.detail,
      (after (.characterReceived 62 false) (receiving .length run)).link.receiver) =
      (.reasons 4, .body 62 []) := by
  decide +kernel

/-- R193: RDY is high when active, ATTN and RESET are low when active. -/
theorem test_pin_levels :
    (run.rdyPin, (dev .retain).rdyPin) = (.high, .low) ∧
    (run.attnPin, (run.raise .power (.power .resumed)).attnPin) = (.high, .low) ∧
    (run.resetPin, (after .resetLineActive run).resetPin) = (.high, .low) ∧ run.txdPin = some .high := by
  decide

/-- R41: the interval timer's expiry belongs to the second event, so the 998th tick of a second is none, however far the count
is. -/
theorem test_no_interval_expiry_between_second_events :
    exec .intervalTimerExpiry { run with timebase := { divider := 0, second := 997 }, sched := { run.sched with interval := 899 } } =
      .next { run with timebase := { divider := 0, second := 997 }, sched := { run.sched with interval := 899 } } := rfl

/-- R145: with PFAIL inactive the receiver is in HUNT at the entry into RUN, whatever it held in START. -/
theorem test_receiver_hunts_at_run_entry :
    let s := receiving (.body 3 [1]) (dev .start)
    (s.enterRun.power.device, s.enterRun.link.receiver, s.enterRun.link.gap) = (.run, .hunt, none) := by
  decide +kernel

/-- R167: FLUSH entry out of START, with PFAIL active, leaves a frame being received as it is. -/
theorem test_receiver_goes_on_into_flush :
    let d := dev .start
    let s := receiving (.body 3 [1]) { d with power := { d.power with pfailFiltered := true } }
    (s.enterRun.power.device, s.enterRun.link.receiver, s.enterRun.link.gap) = (.retain, .body 3 [1], some 4) := by
  decide +kernel

/-- R98, R130: bytes with a retire field that is not FFh, which would be RETIRING, are not left by a tear; those with a record slot
that is not FFh are SPOILED. -/
theorem test_torn_erase_is_spoiled :
    (erasedOrSpoiled (List.replicate 9 0xFF ++ List.replicate 40 0), erasedOrSpoiled (List.replicate 49 0xFF),
      erasedOrSpoiled (cutRingErase (List.replicate 9 0xFF ++ List.replicate 40 0))) = (false, true, true) := by
  decide +kernel

/-! ## States that meet the statements' hypotheses: the machine as a whole and the array -/

/-- A part in RUN with something in every queue, a notice and an OPEN session. -/
def lively : State :=
  let s := serviced (queue [entry0] (run.raise .power (.power .resumed)))
  { s with
    pending := [.replySent]
    link :=
      { s.link with
        requests := [{ kind := 1, tag := 7, payload := [] }], jobs := [job (.loadWait .ch0)], replies := [pinged]
        transmitting := true, credits := 3 } }

/-- The array with one byte programmed. -/
def written : State := { busy (opOf .recordProgram) run with array := [(5, 3)], pending := [.recordProgramEnd .pass] }

theorem witness_StepKeepsTheArrayForm : ArrayLaw written ∧ ∃ t, step written = .next t := ⟨rfl, _, rfl⟩

theorem lively_link : LinkLaw lively := by constructor <;> decide

theorem lively_queue : QueueLaw lively := by constructor <;> decide

theorem witness_StepKeepsTheQueuesWithinTheirLimits :
    LinkLaw lively ∧ QueueLaw lively ∧ ∃ t, step lively = .next t := ⟨lively_link, lively_queue, _, rfl⟩

theorem lively_notice : NoticeLaw lively := by
  constructor
  · intro k; cases k <;> decide
  · intro k; cases k <;> decide
  · decide

theorem lively_count : CountLaw lively := by
  constructor
  · intro c; cases c <;> decide
  · intro c; cases c <;> decide
  · intro c; cases c <;> decide
  · intro j h; exact nomatch h
  · intro c; cases c <;> decide
  · intro k; cases k <;> decide
  · decide

theorem witness_StepKeepsCountsAndNoticesInRange :
    CountLaw lively ∧ NoticeLaw lively ∧ ∃ t, step lively = .next t := ⟨lively_count, lively_notice, _, rfl⟩

theorem run_runLaw : RunLaw run := by
  constructor
  · decide
  · intro h; exact absurd rfl h
  · intro h; exact absurd rfl h
  · intro h; exact absurd rfl h
  · intro h; exact absurd rfl h
  · intro h; exact absurd rfl h

theorem lively_runLaw : RunLaw lively := by
  constructor
  · decide
  · intro h; exact absurd rfl h
  · intro h; exact absurd rfl h
  · intro h; exact absurd rfl h
  · intro h; exact absurd rfl h
  · intro _; rfl

theorem witness_StepKeepsCountingRequestsAndEditsConfined :
    StagedLaw run ∧ run.service.session = .closed ∧ RunLaw lively ∧ (∃ t, step run = .next t) ∧
      ∃ t, step lively = .next t := ⟨fun _ => rfl, rfl, lively_runLaw, ⟨_, rfl⟩, _, rfl⟩

theorem lively_power : PowerLaw lively := by
  constructor
  · decide
  · intro op h; exact nomatch h
  · decide
  · decide
  · decide
  · decide

theorem run_power : PowerLaw run := by
  constructor
  · decide
  · intro op h; exact nomatch h
  · decide
  · decide
  · decide
  · decide

theorem witness_StepKeepsThePowerMonitorConsistent : PowerLaw lively ∧ ∃ t, step lively = .next t :=
  ⟨lively_power, _, rfl⟩

/-- A part whose live configuration has generation 1. -/
def applied : State := { run with config := { run.config with generation := 1, liveSector := some .a } }

theorem witness_LiveConfigurationChangesOnlyAtScanAndApply :
    (∃ t, exec .supplyLoss applied = .next t ∧ t.config.generation ≠ applied.config.generation) ∧
    (let s := busy (opOf .imageProgram)
        (jobs [job (.apply Configuration.default (some { target := .b, generation := 2, step := .program 0 }))] applied);
      ∃ t, exec (.imageProgramEnd .pass) s = .next t ∧ t.config.generation ≠ s.config.generation) :=
  ⟨⟨_, rfl, by decide⟩, _, rfl, by decide +kernel⟩

theorem witness_ArmedFlagAndMaskChangeOnlyByTheirRequests :
    (∃ t, exec (.fetchNotice 7 [0]) (asked 0x18 [0] lively) = .next t ∧ (asked 0x18 [0] lively).notices.armed = true) ∧
    (let s := asked 0x18 [0] (run.raise .power (.power .resumed));
      ∃ t, exec (.fetchNotice 7 [0]) s = .next t ∧ s.notices.armed = true ∧ t.notices.armed = false) ∧
    (let s := asked 0x19 [] { run with notices := { run.notices with armed := false } };
      ∃ t, exec (.ackNotice 7 []) s = .next t ∧ s.notices.armed = false ∧ t.notices.armed = true) ∧
    (let s := asked 0x1A [2] run;
      ∃ t, exec (.setNoticeMask 7 [2]) s = .next t ∧ t.notices.mask ≠ s.notices.mask) :=
  ⟨⟨_, rfl, by decide⟩, ⟨_, rfl, by decide⟩, ⟨_, rfl, by decide⟩, ⟨_, rfl, by decide⟩⟩

/-- The COUNT program of sector 2 is in progress. -/
def counting : State :=
  { busy (opOf .countProgram) (sector .s2 .retiring run) with engine := { phase := .count .s2, retryWait := false } }

theorem counting_power : PowerLaw counting := by
  constructor
  · decide
  · intro op h; cases h; decide
  · decide
  · decide
  · decide
  · decide

theorem witness_EraseCountsGrowOnlyAtCountEnds :
    PowerLaw counting ∧ ∃ t, exec (.countProgramEnd .pass) counting = .next t ∧ counting.power.device ≠ .start ∧
      t.power.device ≠ .start ∧
      (t.store.table.get .s2).eraseCount ≠ (counting.store.table.get .s2).eraseCount :=
  ⟨counting_power, _, rfl, by decide +kernel⟩

theorem witness_ArrayChangesOnlyAtWritingEndsAndTears :
    (∃ t, exec .tick written = .next t) ∧ ¬ writesArray .tick := by
  refine ⟨⟨_, rfl⟩, ?_⟩
  simp [writesArray, endsProgram, endsErase]

theorem witness_ProgramAndEraseEndsActOnTheirOwnBytes :
    (ArrayLaw written ∧ written.store.op = some (opOf .recordProgram) ∧
      endsProgram (.recordProgramEnd .pass) = some ((opOf .recordProgram).task, .pass) ∧
      ∃ t, exec (.recordProgramEnd .pass) written = .next t) ∧
    (let s := busy (opOf .ringErase) run;
      s.store.op = some (opOf .ringErase) ∧ endsErase (.eraseEnd .pass) = some ((opOf .ringErase).task, .pass) ∧
      (∃ t, exec (.eraseEnd .pass) s = .next t) ∧ (EraseOutcome.pass = .aborted ↔ (opOf .ringErase).aborting = true)) ∧
    (let s := busy (opOf .ringErase) run;
      endsErase (.eraseEnd .aborted) = some ((opOf .ringErase).task, .aborted) ∧
      (∃ t, exec (.eraseEnd .aborted) s = .next t) ∧
      ¬ (EraseOutcome.aborted = .aborted ↔ (opOf .ringErase).aborting = true)) :=
  ⟨⟨rfl, rfl, rfl, _, rfl⟩, ⟨rfl, rfl, ⟨_, rfl⟩, by decide⟩, ⟨rfl, ⟨_, rfl⟩, by decide⟩⟩

/-! ## Layouts and shared operations -/

theorem witness_RecordsReadBackOnceConfirmed :
    ({ channel := .ch7, cause := .compact, tariff := .t3, buckets := PerTariff.all 1, lost := 65535 } : RecordContent).lost <
        2 ^ 16 ∧ 4294967295 < 2 ^ 32 ∧ (1 : Byte) ≠ 0 := by decide

theorem witness_ImagesReadBack :
    (1 ≤ 200000 ∧ 200000 ≤ 200000 ∧ (1 : Nat) ≤ 1) ∧
    (∀ ch, (Configuration.default.channels.get ch).filter ≤ 15 ∧ 1 ≤ (Configuration.default.channels.get ch).weight ∧
      (Configuration.default.channels.get ch).weight ≤ 65535 ∧
      (Configuration.default.channels.get ch).threshold ≤ 4294967295) ∧
    Configuration.default.globals.commitInterval ≤ 3600 ∧ 10 ≤ Configuration.default.globals.idleTimeout ∧
    Configuration.default.globals.idleTimeout ≤ 600 := by
  refine ⟨by decide, ?_, by decide⟩
  intro c
  cases c <;> decide

theorem witness_HeaderFieldsReadByTheirCheck :
    (1 ≤ 3 ∧ 16777215 < 256 ^ 3) ∧ (0 : Byte) ≠ fieldCheck (leBytes 3 16777215) ∧
    ((0xFF : Byte) ≠ fieldCheck (leBytes 3 16777214) ∧ 16777214 + 1 ≠ 256 ^ 3) := by decide

theorem witness_DrainMovesThePendingCountToTheActiveBucket :
    (let k := nearWrap.capture.channels.get .ch6;
      let u := k.pending * (nearWrap.config.live.channels.get .ch6).weight;
      2 ^ 40 ≤ ((nearWrap.accum.accounts.get .ch6).buckets.get nearWrap.accum.tariff).toNat + u) ∧
    ((run.accum.accounts.get .ch0).buckets.get run.accum.tariff).toNat +
      (run.capture.channels.get .ch0).pending * (run.config.live.channels.get .ch0).weight < 2 ^ 40 := by decide

theorem witness_RaisesCountAndMerge :
    ((run.raise .service (.reasons 1)).notices.records.get .service).detail = .reasons 1 ∧
    ((run.raise .link (.reasons 1)).notices.records.get .link).detail = .reasons 1 ∧
    ((run.raise .lostEdges (.channels 1)).notices.records.get .lostEdges).detail = .channels 1 ∧
    ((run.raise .rollover (.rollover 1 1)).notices.records.get .rollover).detail = .rollover 1 1 ∧
    (run.notices.records.get .service).detail = .empty ∧ (run.notices.records.get .rollover).detail = .empty := by decide

/-- The store is EXHAUSTED. -/
def exhausted (s : State) : State := { s with store := { s.store with exhausted := true } }

theorem witness_CausesMergeJoinTheTailOrAreResolved :
    (run.store.exhausted = false ∧ (queue [entry0] run).sched.queue = [] ++ entry0 :: [] ∧ entry0.channel = .ch0 ∧
      ∀ x ∈ ([] : List QueueEntry), x.channel ≠ .ch0) ∧
    (∀ e ∈ (queue [entry0] run).sched.queue, e.channel ≠ .ch1) ∧
    ((exhausted run).store.exhausted = true ∧ (exhausted run).sched.queue = [] ∧
      (some JobSlot.first : Option JobSlot) = some .first) := by decide

/-- A COMMIT_WAIT job for a mask, and a LOAD_WAIT job, in the first entry. -/
def waiting (m : ChannelMask) : State := jobs [job (.commitWait m none)] run

theorem waiting_link (m : ChannelMask) : LinkLaw (waiting m) := by
  constructor
  · exact Nat.zero_le 4
  · exact Nat.le_succ 1
  · exact List.nodup_singleton _
  · rfl
  · exact Nat.le_add_right 1 5
  · intro h; exact nomatch h

/-- A LOAD_WAIT job of CH0, which has a record. -/
def loading : State := recorded .s2 (jobs [job (.loadWait .ch0)] run)

theorem loading_link : LinkLaw loading := by constructor <;> decide

theorem witness_WaitersAreToldTheOutcome :
    (LinkLaw (waiting 3) ∧ (waiting 3).job? .first = some (job (.commitWait 3 none)) ∧ maskWithout 3 .ch0 ≠ 0) ∧
    (LinkLaw (waiting 1) ∧ (waiting 1).job? .first = some (job (.commitWait 1 none)) ∧ maskWithout 1 .ch0 = 0) ∧
    (LinkLaw loading ∧ loading.job? .first = some (job (.loadWait .ch0)) ∧
      (loading.store.map.get .ch0).designated = some { location := { sector := .s2, slot := 1 }, sequence := 1 }) :=
  ⟨⟨waiting_link 3, rfl, by decide⟩, ⟨waiting_link 1, rfl, by decide⟩, loading_link, rfl, rfl⟩

theorem run_queue : QueueLaw run := by constructor <;> decide

theorem dirty_queue : QueueLaw (dirty run) := by constructor <;> decide

/-- CH0 is dirty and has an entry with cause REQUEST. -/
def requested : State := queue [{ entry0 with cause := .request }] (dirty run)

theorem requested_queue : QueueLaw requested := by constructor <;> decide

theorem witness_TariffSwitchDrainsThenQueues :
    run.accum.tariff = .t0 ∧ Tariff.t1 ≠ (dirty run).accum.tariff ∧ QueueLaw (dirty run) ∧
    (dirty run).store.exhausted = false ∧ (dirty run).config.live.globals.commitOnTariff = true ∧
    ((dirty run).tariffSwitch .t1).dirty .ch0 = true ∧ ((dirty run).tariffSwitch .t1).dirty .ch1 = false ∧
    (QueueLaw requested ∧ (requested.tariffSwitch .t1).dirty .ch0 = true ∧
      (requested.tariffSwitch .t1).sched.queue = [{ entry0 with cause := .request }] ∧
      ((dirty run).tariffSwitch .t1).sched.queue = [{ entry0 with cause := .tariff }]) ∧
    (let s : State :=
        { run with
          config :=
            { run.config with
              live := { run.config.live with globals := { run.config.live.globals with commitOnTariff := false } } } };
      s.config.live.globals.commitOnTariff = false ∧ Tariff.t1 ≠ s.accum.tariff) :=
  ⟨rfl, by decide, dirty_queue, rfl, rfl, by decide +kernel, by decide +kernel,
    ⟨requested_queue, by decide +kernel, by decide +kernel, by decide +kernel⟩, rfl, by decide⟩

/-- Compaction has a step and it is urgent. -/
def urgent : State := sector .s2 .spoiled { run with sched := { run.sched with headWaiting := true } }

/-- 16 record slots are free, one too few, and the commit queue has a head. -/
def short : State := queue [entry0] (sector .s2 (.opened 1 16) (all .worn run))

/-- A sector owes an erase, and the ERASED sectors are the others of a list. -/
def owing (rs : List RingSector) : State := rs.foldl (fun s r => sector r .erased s) (sector .s5 .spoiled (all .worn run))

/-- An APPLY job that has not begun, with a live generation. -/
def toApply (g : Nat) : State :=
  let s := jobs [job (.apply Configuration.default none)] run
  { s with config := { s.config with generation := g, liveSector := some .a } }

theorem toApply_link (g : Nat) : LinkLaw (toApply g) := by
  constructor
  · exact Nat.zero_le 4
  · exact Nat.le_succ 1
  · exact List.nodup_singleton _
  · rfl
  · exact Nat.le_add_right 1 5
  · intro h; exact nomatch h

theorem witness_ArbiterChoosesByRank_jobs :
    (LinkLaw (toApply 199999) ∧ (toApply 199999).arrayJob? = some (job (.apply Configuration.default none)) ∧
      (toApply 199999).config.liveSector = some .a ∧ (toApply 199999).config.generation < 200000) ∧
    (LinkLaw (toApply 200000) ∧ 200000 ≤ (toApply 200000).config.generation ∧ (toApply 200000).engineReady = false) ∧
    (let j := job (.apply Configuration.default (some { target := .b, generation := 2, step := .program 3 }));
      (jobs [j] run).arrayJob? = some j ∧ (jobs [j] run).engineReady = false) :=
  ⟨⟨toApply_link _, rfl, rfl, by decide⟩, ⟨toApply_link _, by decide, rfl⟩, rfl, rfl⟩

theorem witness_ArbiterChoosesByRank_bounds :
    ((owing [.s3]).engineReady = true ∧ (owing [.s3]).erasedSectors = 1) ∧
    (let s := jobs [job (.readSlot (.ring .s7) 31)] (owing [.s3, .s4]);
      s.engineReady = true ∧ s.erasedSectors = 2 ∧ s.sched.headWaiting = false ∧
        s.arrayJob? = some (job (.readSlot (.ring .s7) 31))) ∧
    short.freeSlots = 16 ∧ (owing [.s3, .s4]).sched.queue = [] := by
  decide +kernel

theorem witness_ArbiterChoosesByRank :
    (busy (opOf .slotRead) run).store.op ≠ none ∧ (dev .retain).power.device = .retain ∧
    (urgent.power.device = .run ∧ urgent.store.op = none ∧ urgent.store.holder = none ∧ urgent.engineReady = true ∧
      urgent.sched.headWaiting = true) ∧
    (run.engineReady = false ∧ run.arrayJob? = none ∧ run.store.exhausted = false ∧ run.sched.queue = []) ∧
    (let s := jobs [job (.readSlot (.ring .s5) 3)] run;
      s.arrayJob? = some (job (.readSlot (.ring .s5) 3)) ∧ s.engineReady = false) ∧
    (short.arrayJob? = none ∧ short.sched.queue ≠ [] ∧ short.freeSlots < 17 ∧ short.engineReady = false) ∧
    ((exhausted run).store.exhausted = true ∧ (exhausted run).arrayJob? = none) := by decide +kernel

/-- CH0 is dirty and its entry is the commit queue's head; sector 2 is OPEN. -/
def heading : State := queue [entry0] (dirty (sector .s2 (.opened 1 31) run))

theorem witness_CommitHeadStartsWithASnapshot :
    (heading.power.device = .run ∧ heading.store.op = none ∧ heading.store.holder = none ∧
      heading.store.exhausted = false ∧ heading.arrayJob? = none ∧ heading.engineReady = false ∧
      heading.sched.queue = [entry0] ∧ 17 ≤ heading.freeSlots ∧
      (State.drainCounts { heading with sched := { heading.sched with queue := [], headWaiting := false } } .ch0).dirty .ch0 =
        true ∧
      heading.openSector? = some .s2 ∧ (heading.store.table.get .s2).state = .opened 1 31 ∧ 31 < 32) ∧
    (let s := queue [entry0] run;
      s.engineReady = false ∧ 17 ≤ s.freeSlots ∧ entry0.waiters = [] ∧
      (State.drainCounts { s with sched := { s.sched with queue := [], headWaiting := false } } .ch0).dirty .ch0 = false) := by
  decide +kernel

theorem witness_CommitHeadStartsWithASnapshot_bounds :
    (let s := queue [entry0] (dirty (sector .s2 (.opened 1 15) (all .worn run)));
      s.freeSlots = 17 ∧ s.engineReady = false ∧ s.openSector? = some .s2) ∧
    (let s := queue [entry0] (dirty (sector .s2 (.opened 1 31) (owing [.s3, .s4])));
      s.engineReady = true ∧ s.erasedSectors = 2 ∧ s.sched.headWaiting = false ∧ 17 ≤ s.freeSlots ∧
        s.openSector? = some .s2 ∧ s.arrayJob? = none) ∧
    (let s := queue [entry0] (owing [.s3, .s4]);
      s.engineReady = true ∧ s.erasedSectors = 2 ∧ s.sched.headWaiting = false ∧ 17 ≤ s.freeSlots ∧
        (State.drainCounts { s with sched := { s.sched with queue := [], headWaiting := false } } .ch0).dirty .ch0 = false) := by
  decide +kernel

/-- The engine in a phase. -/
def phased (p : Phase) (s : State) : State := { s with engine := { s.engine with phase := p } }

theorem witness_CompactionStepsFollowThePhase :
    (let s := sector .s5 .retiring run;
      s.engine.phase = .idle ∧ (s.store.table.get .s5).state.owesErase = true ∧
      ∀ r : RingSector, r.toNat < RingSector.s5.toNat → (s.store.table.get r).state.owesErase = false) ∧
    (let s := recorded .s3 (sector .s4 (.filled 2) (sector .s3 (.filled 1) run));
      s.engine.phase = .idle ∧ (∀ r, (s.store.table.get r).state.owesErase = false) ∧
      (s.store.table.get .s3).state = .filled 1 ∧
      (∀ r e', r ≠ .s3 → (s.store.table.get r).state = .filled e' → 1 < e') ∧
      (s.store.map.get .ch0).designated = some { location := { sector := .s3, slot := 1 }, sequence := 1 }) ∧
    ((phased (.copy .s3 1) (recorded .s3 run)).engine.phase = .copy .s3 1 ∧
      ∀ (c : Channel) (d : Designation), 1 ≤ c.toNat →
        ((recorded .s3 run).store.map.get c).designated = some d → d.location.sector ≠ .s3) ∧
    (phased (.mark .s3) run).engine.phase = .mark .s3 ∧ (phased (.erase .s3 2) run).engine.phase = .erase .s3 2 ∧
    (phased (.count .s3) run).engine.phase = .count .s3 := by
  refine ⟨⟨rfl, rfl, ?_⟩, ⟨rfl, ?_, rfl, ?_, rfl⟩, ⟨rfl, ?_⟩, rfl, rfl, rfl⟩
  · intro r; cases r <;> decide
  · intro r; cases r <;> rfl
  · intro r e' h1 h2
    cases r <;> first
      | exact absurd rfl h1
      | (cases h2; done)
      | (cases h2; decide)
  · intro c d h1 h2
    cases c <;> first | exact absurd h1 (by decide) | exact nomatch h2

theorem witness_AttemptsTakeTheNextSlotOrOpenAHead :
    ((commitHold .interval 0).job.content ≠ none ∧ ¬ 17 ≤ short.freeSlots) ∧
    (heading.openSector? = some .s2 ∧ (heading.store.table.get .s2).state = .opened 1 31 ∧ 17 ≤ heading.freeSlots) ∧
    (run.openSector? = none ∧ 17 ≤ run.freeSlots ∧ (run.store.table.get .s2).state = .erased ∧
      ∀ q, q ≠ .s2 → (run.store.table.get q).state = .erased →
        (run.store.table.get .s2).eraseCount < (run.store.table.get q).eraseCount ∨
          ((run.store.table.get .s2).eraseCount = (run.store.table.get q).eraseCount ∧ RingSector.s2.toNat < q.toNat)) ∧
    (let s := sector .s2 (.opened 1 32) run;
      s.openSector? = some .s2 ∧ (s.store.table.get .s2).state = .opened 1 32 ∧ 32 ≤ 32) ∧
    (let s := sector .s2 (.opened 1 31) (all .worn run);
      s.openSector? = some .s2 ∧ 1 ≤ s.freeSlots ∧
      ∀ k, (s.store.table.get k).state ≠ .erased) := by
  refine ⟨by decide, by decide +kernel, ⟨rfl, by decide, rfl, ?_⟩, by decide, ⟨rfl, by decide, ?_⟩⟩
  · intro q; cases q <;> decide
  · intro k; cases k <;> decide

theorem witness_FailedJobsRaiseStoreFault :
    (commitHold .interval 2).job = .commit (commitJob .interval) ∧ (commitHold .interval 2).fault = some .s2 ∧
    (commitJob .interval).cause ≠ .flush ∧ (commitJob .flush).cause = .flush ∧
    (commitHold .flush 2).job = .commit (commitJob .flush) ∧
    copyHold.job = .copy { channel := .ch0, target := .s3, tariff := .t0, buckets := PerTariff.all 0, lost := 0 } := by decide

/-! ## Supply, time, inputs -/

/-- The part without supply. -/
def off : State := { dev .start with supply := { powered := false, resetLine := false } }

/-- The RESET line holds the part. -/
def holding : State := { dev .start with supply := { powered := true, resetLine := true } }

theorem witness_SupplyComesUpAndIsLost :
    (off.supply.powered = false ∧ off.supply.resetLine = false ∧ off.store.op = none) ∧
    (let s : State := { off with supply := { powered := false, resetLine := true } };
      s.supply.powered = false ∧ s.supply.resetLine = true ∧ s.store.op = none) ∧
    (ArrayLaw written ∧ written.supply.powered = true) := ⟨⟨rfl, rfl, rfl⟩, ⟨rfl, rfl, rfl⟩, rfl, rfl⟩

theorem witness_ResetLineHoldsThePartAndReleaseBegins :
    (ArrayLaw written ∧ written.supply.powered = true ∧ written.supply.resetLine = false) ∧
    (holding.supply.powered = true ∧ holding.supply.resetLine = true) := ⟨⟨rfl, rfl, rfl⟩, rfl, rfl⟩

/-- A TIME channel at its active level, with a pending count. -/
def timed (pending : Nat) : State :=
  busy (opOf .slotRead) (channel .ch0 { mode := .time, polarity := .rising, filter := 1, weight := 10, threshold := 0 }
    { sync := .high, run := 0, filtered := .high, pending := pending, lost := 0 } run)

theorem witness_TickMovesCountsToTheActiveBucket :
    ((timed 254).alive = true ∧ (timed 254).power.device = .run ∧ (timed 254).capture.state = .live ∧
      (timed 254).link.requests = [] ∧ (timed 254).tselDue = false ∧
      ((timed 254).capture.channels.get .ch0).pending ≤ 255 ∧ ((timed 254).capture.channels.get .ch0).pending < 255 ∧
      (timed 254).tickCounts .ch0 .high) ∧
    (((timed 255).capture.channels.get .ch0).pending = 255 ∧ (timed 255).tickCounts .ch0 .high) ∧
    (run.alive = true ∧ run.power.device = .run ∧ run.capture.state = .live ∧ run.link.requests = [] ∧
      run.tselDue = false ∧ (run.capture.channels.get .ch0).pending ≤ 255 ∧ run.store.op = none) ∧
    ¬ (busy (opOf .slotRead) run).tickCounts .ch0 .low := by
  refine ⟨⟨rfl, rfl, rfl, rfl, rfl, by decide, by decide, rfl⟩, ⟨rfl, rfl⟩,
    ⟨rfl, rfl, rfl, rfl, rfl, by decide, rfl⟩, ?_⟩
  intro h
  exact h

/-- The SVC line and the tariff select lines differ from their filters, with a run. -/
def lines (n : Nat) (s : State) : State :=
  { s with
    service := { s.service with svcSync := true, svcFiltered := false, svcRun := n }
    accum := { s.accum with tsel := { line1 := .low, line0 := .high, filtered := .t0, candidate := .t1, run := n } } }

theorem witness_TickRunsTheTickTimersAndTheExecutor :
    ((lines 19 run).alive = true ∧ (lines 19 run).power.device ≠ .flush ∧ (lines 19 run).resumeDue = false ∧
      (lines 19 run).service.svcRun + 1 = 20 ∧ (lines 19 run).accum.tsel.run + 1 = 20) ∧
    ((lines 18 run).service.svcRun + 1 ≠ 20 ∧ (lines 18 run).accum.tsel.run + 1 ≠ 20) ∧
    (run.service.svcSync = run.service.svcFiltered ∧ State.tselValue run.accum.tsel = run.accum.tsel.filtered) ∧
    State.tselValue { run.accum.tsel with line0 := .high } ≠ run.accum.tsel.candidate ∧
    ((receiving .length run).link.gap = some 4 ∧ 5 ≤ 4 + 1) ∧
    (let s : State := { dev .retain with power := { (dev .retain).power with resume := some 8 } };
      s.alive = true ∧ s.power.device = .retain ∧ s.power.resume = some 8 ∧ s.resumeDue = false) ∧
    ((busy (opOf .slotRead) (dev .flush)).alive = true ∧ (busy (opOf .slotRead) (dev .flush)).power.device = .flush ∧
      (busy (opOf .slotRead) (dev .flush)).store.op ≠ none ∧ (busy (opOf .slotRead) (dev .flush)).resumeDue = false) ∧
    ((asked 1 [] run).alive = true ∧ (asked 1 [] run).power.device = .run ∧
      (asked 1 [] run).link.requests = { kind := 1, tag := 7, payload := [] } :: []) := by decide

/-- The second counter and the interval timer at their last count. -/
def lastTick (interval : Nat) (s : State) : State :=
  { s with timebase := { s.timebase with second := 999 }, sched := { s.sched with interval := interval } }

/-- The idle timer's count of an OPEN session. -/
def idling (n : Nat) (s : State) : State := { s with service := { s.service with session := .opened n } }

theorem witness_SecondEventAndIntervalExpiry :
    (let s := lastTick 898 run;
      s.alive = true ∧ s.timebase.second = 999 ∧ s.power.device = .run ∧ 1 ≤ s.config.live.globals.commitInterval ∧
        ¬ s.config.live.globals.commitInterval ≤ s.sched.interval + 1 ∧ s.service.session = .closed) ∧
    (let s := lastTick 899 (dev .retain); s.timebase.second = 999 ∧ s.power.device ≠ .run) ∧
    run.timebase.second ≠ 999 ∧
    (let s := lastTick 899 (dirty run);
      s.alive = true ∧ QueueLaw s ∧ s.power.device = .run ∧ 1 ≤ s.config.live.globals.commitInterval ∧
        s.config.live.globals.commitInterval ≤ s.sched.interval + 1 ∧ s.store.exhausted = false ∧ s.store.op = none) ∧
    (let s := exhausted (lastTick 899 (dirty run));
      QueueLaw s ∧ s.store.exhausted = true ∧ s.sched.queue = [] ∧ s.sched.headWaiting = false) ∧
    (let s := idling 118 (lastTick 899 (serviced run)); 118 + 1 < s.config.live.globals.idleTimeout) ∧
    (let s := idling 119 (lastTick 899 (serviced run));
      s.service.session = .opened 119 ∧ s.config.live.globals.idleTimeout ≤ 119 + 1) :=
  ⟨by decide, by decide, by decide, ⟨rfl, by constructor <;> decide, rfl, by decide, by decide, rfl, rfl⟩,
    ⟨by constructor <;> decide, rfl, rfl, rfl⟩, by decide, by decide⟩

/-- The SVC line goes inactive under an OPEN session. -/
def releasing (x : Session) : State :=
  { run with service := { session := x, svcSync := false, svcFiltered := true, svcRun := 19 } }

theorem witness_SessionClosesByTimeoutOrLine :
    (let s := idling 119 (lastTick 0 (serviced run));
      s.alive = true ∧ s.timebase.second = 999 ∧ s.service.session = .opened 119 ∧
        s.config.live.globals.idleTimeout ≤ 119 + 1 ∧ s.intervalDue = false ∧ s.store.op = none) ∧
    (run.timebase.second ≠ 999 ∧ run.service.session = .closed ∧ 118 + 1 < run.config.live.globals.idleTimeout) ∧
    ((lines 19 run).service.svcSync ≠ (lines 19 run).service.svcFiltered ∧ (lines 19 run).service.svcRun + 1 = 20 ∧
      (lines 19 run).service.svcSync = true) ∧
    ((releasing .closed).alive = true ∧ (releasing .closed).service.svcSync ≠ (releasing .closed).service.svcFiltered ∧
      (releasing .closed).service.svcRun + 1 = 20 ∧ (releasing .closed).service.svcSync = false) ∧
    (releasing (.opened 5)).service.session = .opened 5 := by decide

/-- RETAIN with its last tick of PFAIL inactivity to come. -/
def resuming (owed : Bool) (source : TariffSource) : State :=
  { dev .retain with
    power := { (dev .retain).power with resume := some 9, restartOwed := owed }
    config :=
      { (dev .retain).config with
        live :=
          { (dev .retain).config.live with
            globals := { (dev .retain).config.live.globals with tariffSource := source } } } }

theorem witness_ResumeExpiryEndsRetain :
    ((resuming true .host).alive = true ∧ (resuming true .host).power.device = .retain ∧
      (resuming true .host).power.resume = some 9 ∧ 10 ≤ 9 + 1 ∧ (resuming true .host).power.restartOwed = true) ∧
    ((resuming false .host).power.restartOwed = false ∧
      (resuming false .host).config.live.globals.tariffSource = .host) ∧
    (resuming false .lines).config.live.globals.tariffSource = .lines := by decide

/-- An EDGE channel CH0 with a filter length, a run and a pending count, its synchronised level high and its filtered low. -/
def edged (filter run_ pending : Nat) (m : Mode) (sync : Level) : State :=
  channel .ch0 { mode := m, polarity := .rising, filter := filter, weight := 1, threshold := 0 }
    { sync := sync, run := run_, filtered := .low, pending := pending, lost := 0 } run

theorem witness_ChannelLevelChangesCountAnEdge :
    ((edged 0 0 254 .edge .low).supply.powered = true ∧ (edged 0 0 254 .edge .low).capture.state = .live ∧
      ((edged 0 0 254 .edge .low).capture.channels.get .ch0).sync ≠ .high ∧
      ((edged 0 0 254 .edge .low).config.live.channels.get .ch0).filter = 0 ∧
      ((edged 0 0 254 .edge .low).capture.channels.get .ch0).filtered ≠ .high ∧
      ((edged 0 0 254 .edge .low).config.live.channels.get .ch0).mode = .edge ∧
      Level.high = countedLevel .rising ∧ ((edged 0 0 254 .edge .low).capture.channels.get .ch0).pending < 255) ∧
    255 ≤ ((edged 0 0 255 .edge .low).capture.channels.get .ch0).pending ∧
    ((edged 1 0 0 .edge .low).config.live.channels.get .ch0).filter ≠ 0 ∧
    ((edged 0 0 0 .time .low).config.live.channels.get .ch0).mode ≠ .edge ∧
    ((edged 0 0 0 .edge .high).capture.channels.get .ch0).sync = .high ∧
    ((edged 15 14 254 .edge .high).alive = true ∧ (edged 15 14 254 .edge .high).capture.state = .live ∧
      ((edged 15 14 254 .edge .high).config.live.channels.get .ch0).filter ≠ 0 ∧
      ((edged 15 14 254 .edge .high).capture.channels.get .ch0).sync ≠
        ((edged 15 14 254 .edge .high).capture.channels.get .ch0).filtered ∧
      ((edged 15 14 254 .edge .high).capture.channels.get .ch0).run + 1 =
        ((edged 15 14 254 .edge .high).config.live.channels.get .ch0).filter) := by decide

theorem witness_OtherLineAndPfailChanges :
    run.supply.powered = true ∧
    ((dev .start).power.pfailFiltered = false ∧ (dev .start).power.device = .start) ∧
    ((dev .retain).power.pfailFiltered = false ∧ (dev .retain).power.device = .retain) ∧
    (let s : State := { dev .flush with power := { (dev .flush).power with pfailFiltered := true } };
      s.supply.powered = true ∧ s.power.pfailFiltered = true ∧ s.power.device = .flush) ∧
    (let s : State := { dev .retain with power := { (dev .retain).power with pfailFiltered := true } };
      s.power.pfailFiltered = true ∧ s.power.device = .retain) := by decide

/-- The tariff source is LINES. -/
def underLines (s : State) : State :=
  { s with
    config :=
      { s.config with
        live := { s.config.live with globals := { s.config.live.globals with tariffSource := .lines } } } }

theorem witness_TselFilteredChangeSwitchesUnderLines :
    (let s := lines 19 (underLines run);
      s.alive = true ∧ State.tselValue s.accum.tsel ≠ s.accum.tsel.filtered ∧
        State.tselValue s.accum.tsel = s.accum.tsel.candidate ∧ s.accum.tsel.run + 1 = 20 ∧ s.power.device = .run ∧
        s.config.live.globals.tariffSource = .lines) ∧
    (let s := lines 19 (busy (opOf .slotRead) run);
      s.config.live.globals.tariffSource = .host ∧ s.store.op ≠ none) := by decide

/-! ## FLUSH and START -/

theorem witness_PfailActiveInRunEntersFlush :
    (let s := held (commitHold .interval 0) (busy (opOf .recordProgram) lively);
      s.supply.powered = true ∧ s.power.device = .run ∧ s.power.pfailFiltered = false ∧
        s.store.op = some (opOf .recordProgram) ∧ s.store.holder = some (commitHold .interval 0) ∧
        (commitHold .interval 0).job = .commit (commitJob .interval) ∧ s.service.session ≠ .closed) := by decide

/-- FLUSH with the read of a cancelled READ_SLOT in progress. -/
def flushing (list : List Channel) (pfail owed : Bool) : State :=
  let s := busy (opOf .slotRead) (dev .flush)
  { s with
    power := { s.power with pfailFiltered := pfail, restartOwed := owed }
    sched := { s.sched with flushList := list } }

theorem flushing_runLaw : RunLaw (flushing [] false false) := by
  constructor
  · decide
  · intro _ c; cases c <;> rfl
  · intro _; rfl
  · intro _; rfl
  · intro _; rfl
  · intro h; exact absurd rfl h

theorem witness_FlushListIsWrittenAndFlushEnds :
    (let s := dirty (sector .s2 (.opened 1 31) (flushing [.ch0] true false));
      s.power.device = .flush ∧ s.power.replyWait = false ∧ s.store.op = some (opOf .slotRead) ∧
        (opOf .slotRead).task = .slotRead ∧ s.store.holder = none ∧ s.link.jobs = [] ∧ s.sched.flushList = .ch0 :: [] ∧
        s.store.exhausted = false ∧ 1 ≤ s.freeSlots ∧ s.dirty .ch0 = true ∧
        (s.capture.channels.get .ch0).pending = 0 ∧ s.openSector? = some .s2 ∧
        (s.store.table.get .s2).state = .opened 1 31 ∧ 31 < 32) ∧
    (let s := all .worn (flushing [.ch0] true false); s.freeSlots = 0 ∧ s.power.pfailFiltered = true) ∧
    (flushing [] true false).power.pfailFiltered = true ∧
    (let s := replying [pinged] (flushing [] false true);
      s.power.pfailFiltered = false ∧ s.power.restartOwed = true ∧ s.link.replies ≠ []) ∧
    ((flushing [] false true).link.replies = [] ∧ (flushing [] false true).link.transmitting = false) ∧
    ((flushing [] false false).power.restartOwed = false ∧ RunLaw (flushing [] false false) ∧
      (flushing [] false false).config.live.globals.tariffSource = .host) :=
  ⟨by decide +kernel, by decide +kernel, rfl, by decide, by decide, rfl, flushing_runLaw, rfl⟩

/-- START in a scan step. -/
def scanning (x : ScanStep) : State := { busy (opOf .scanRead) (dev .start) with scan := { Scan.initial with step := x } }

/-- The first 16 bytes of an image of the default configuration, of a generation below 256. -/
def imageStart (g : Byte) : List Byte := [1, g, 0, 0, 0, 0x84, 3, 0, 1, 120, 0, 0, 0, 0, 0, 0]

/-- Bytes 16 to 31 of it. -/
def imagePart1 : List Byte := [0, 0, 0, 0, 0, 0, 0, 0, 0, 0, 0, 0, 0, 0, 0, 0]

/-- Bytes 32 to 47 of it. -/
def imagePart2 : List Byte := [0, 0, 2, 1, 0, 0, 0, 0, 0, 0, 0, 2, 1, 0, 0, 0]

/-- Bytes 48 to 63 of it. -/
def imagePart3 : List Byte := [0, 0, 0, 0, 2, 1, 0, 0, 0, 0, 0, 0, 0, 0, 0, 0]

/-- Bytes 64 to 79 of it. -/
def imagePart4 : List Byte := [0, 0, 2, 1, 0, 0, 0, 0, 0, 0, 0, 2, 1, 0, 0, 0]

/-- Bytes 80 to 95 of it. -/
def imagePart5 : List Byte := [0, 0, 0, 0, 2, 1, 0, 0, 0, 0, 0, 0, 0, 0, 0, 0]

/-- Bytes 96 to 111 of it. -/
def imagePart6 : List Byte := [0, 0, 2, 1, 0, 0, 0, 0, 0, 0, 0, 2, 1, 0, 0, 0]

/-- Bytes 112 to 125 of it. -/
def imagePart7 : List Byte := [0, 0, 0, 0, 0, 0, 0, 0, 0, 0, 0, 0, 0, 0]

/-- The image's 126 bytes before its CRC (R192). -/
def imageOf (g : Byte) : List Byte :=
  imageStart g ++ imagePart1 ++ imagePart2 ++ imagePart3 ++ imagePart4 ++ imagePart5 ++ imagePart6 ++ imagePart7

theorem crc_imageOf_1 : crc16 (imageOf 1) = 18237#16 := by
  have h0 : (imageStart 1).foldl crcByte 65535#16 = 21999#16 := by decide +kernel
  have h1 : imagePart1.foldl crcByte 21999#16 = 15113#16 := by decide +kernel
  have h2 : imagePart2.foldl crcByte 15113#16 = 38137#16 := by decide +kernel
  have h3 : imagePart3.foldl crcByte 38137#16 = 20790#16 := by decide +kernel
  have h4 : imagePart4.foldl crcByte 20790#16 = 33637#16 := by decide +kernel
  have h5 : imagePart5.foldl crcByte 33637#16 = 48332#16 := by decide +kernel
  have h6 : imagePart6.foldl crcByte 48332#16 = 48962#16 := by decide +kernel
  have h7 : imagePart7.foldl crcByte 48962#16 = 18237#16 := by decide +kernel
  simp only [crc16, imageOf, List.foldl_append, h0, h1, h2, h3, h4, h5, h6, h7]

theorem parse_imageOf_1 :
    parseImage (imageOf 1 ++ [61, 71]) = some { config := Configuration.default, generation := 1 } := by
  have h : crcBytes ((imageOf 1 ++ [61, 71]).take 126) = [61, 71] := by
    have e : List.take 126 (imageOf 1 ++ ([61, 71] : List Byte)) = imageOf 1 := rfl
    rw [e, crcBytes, crc_imageOf_1]
    rfl
  unfold parseImage imageCrcMatches
  rw [h]
  decide +kernel

theorem crc_imageOf_2 : crc16 (imageOf 2) = 35269#16 := by
  have h0 : (imageStart 2).foldl crcByte 65535#16 = 46794#16 := by decide +kernel
  have h1 : imagePart1.foldl crcByte 46794#16 = 47443#16 := by decide +kernel
  have h2 : imagePart2.foldl crcByte 47443#16 = 54014#16 := by decide +kernel
  have h3 : imagePart3.foldl crcByte 54014#16 = 25906#16 := by decide +kernel
  have h4 : imagePart4.foldl crcByte 25906#16 = 64795#16 := by decide +kernel
  have h5 : imagePart5.foldl crcByte 64795#16 = 35965#16 := by decide +kernel
  have h6 : imagePart6.foldl crcByte 35965#16 = 62252#16 := by decide +kernel
  have h7 : imagePart7.foldl crcByte 62252#16 = 35269#16 := by decide +kernel
  simp only [crc16, imageOf, List.foldl_append, h0, h1, h2, h3, h4, h5, h6, h7]

theorem parse_imageOf_2 :
    parseImage (imageOf 2 ++ [197, 137]) = some { config := Configuration.default, generation := 2 } := by
  have h : crcBytes ((imageOf 2 ++ [197, 137]).take 126) = [197, 137] := by
    have e : List.take 126 (imageOf 2 ++ ([197, 137] : List Byte)) = imageOf 2 := rfl
    rw [e, crcBytes, crc_imageOf_2]
    rfl
  unfold parseImage imageCrcMatches
  rw [h]
  decide +kernel

theorem witness_ConfigScanChoosesTheNewestValidImage :
    ((scanning (.config 2)).store.op = some (opOf .scanRead) ∧ (opOf .scanRead).task = .scanRead ∧
      (scanning (.config 2)).scan.step = .config 2 ∧ 2 < 3) ∧
    ((scanning (.config 6)).scan.step = .config 6 ∧ 3 ≤ 6 ∧ 6 < 7) ∧
    (scanning (.config 7)).scan.step = .config 7 ∧
    (let bytes := (imageOf 1 ++ [61, 71]) ++ (imageOf 2 ++ [197, 137])
     parseImage (slice bytes 0 128) = some { config := Configuration.default, generation := 1 } ∧
      parseImage (slice bytes 128 128) = some { config := Configuration.default, generation := 2 }) ∧
    parseImage (slice (List.replicate 256 0xFF) 128 128) = none :=
  ⟨⟨rfl, rfl, rfl, by decide⟩, ⟨rfl, by decide, by decide⟩, rfl, ⟨parse_imageOf_1, parse_imageOf_2⟩, by decide +kernel⟩

/-- An APPLY's operation on config sector B is in progress. -/
def writingImage (t : Task) : State := busy { opOf t with sector := .config .b, slot := 0 } run

theorem witness_ConfigScan_torn :
    (ArrayLaw (writingImage .imageProgram) ∧ (writingImage .imageProgram).supply.powered = true ∧
      (writingImage .imageProgram).supply.resetLine = false ∧
      (writingImage .imageProgram).store.op = some { opOf .imageProgram with sector := .config .b, slot := 0 } ∧
      (∃ t, exec .resetLineActive (writingImage .imageProgram) = .next t) ∧
      ∃ t, exec .supplyLoss (writingImage .imageProgram) = .next t) ∧
    (ArrayLaw (writingImage .configErase) ∧ (∃ t, exec .supplyLoss (writingImage .configErase) = .next t)) :=
  ⟨⟨rfl, rfl, rfl, rfl, ⟨_, rfl⟩, _, rfl⟩, rfl, _, rfl⟩

/-- Sector 3's header read, with its 32 bytes in the array. -/
def headed (x : ScanStep) (bs : List Byte) : State :=
  let s := scanning x
  { s with
    store := { s.store with op := some { opOf .scanRead with sector := .ring .s3, slot := 0 } }
    array := Memory.program [] (3 * 1024) bs }

theorem witness_RingScanClassifiesAndSettles :
    (let s := headed (.header .s3) (fieldBytes 3 100000);
      s.scan.step = .header .s3 ∧ RingSector.s4.toNat = RingSector.s3.toNat + 1 ∧
        readField (Memory.readBytes s.array (3 * 1024) 32) 0 3 = .valid 100000) ∧
    (let s := headed (.header .s3) (fieldBytes 3 99999);
      readField (Memory.readBytes s.array (3 * 1024) 32) 0 3 = .valid 99999 ∧
        readField (Memory.readBytes s.array (3 * 1024) 32) 4 4 = .unwritten ∧
        (Memory.readBytes s.array (3 * 1024) 32)[9]? = some 0xFF) ∧
    (let s := headed (.header .s3) (List.replicate 9 0xFF ++ [0]);
      (Memory.readBytes s.array (3 * 1024) 32)[9]? ≠ some 0xFF) ∧
    (let s := headed (.header .s3) (fieldBytes 3 5 ++ [1, 2, 3, 4, 5]);
      readField (Memory.readBytes s.array (3 * 1024) 32) 4 4 = .broken) ∧
    (let s := headed (.header .s3) (fieldBytes 3 5 ++ fieldBytes 4 6);
      readField (Memory.readBytes s.array (3 * 1024) 32) 4 4 = .valid 6) ∧
    ((headed (.content .s3 31) []).scan.step = .content .s3 31 ∧
      allFF (Memory.readBytes (headed (.content .s3 31) []).array (3 * 1024) 32) = true) ∧
    allFF (Memory.readBytes (headed (.content .s3 1) [0]).array (3 * 1024) 32) = false ∧
    (let s := sector .s2 (.filled 4) (headed (.content .s15 31) []);
      s.scan.step = .content .s15 31 ∧ RingSector.s2 ≠ .s15 ∧ (s.store.table.get .s2).state = .filled 4) ∧
    ((headed (.head .s2 4 31) []).scan.step = .head .s2 4 31 ∧ 1 < 31) ∧
    (headed (.head .s2 4 31) [0]).scan.step = .head .s2 4 31 := by decide +kernel

theorem witness_RingScanSettles_highest :
    ∀ r e', r ≠ .s15 → ((sector .s2 (.filled 4) (headed (.content .s15 31) [])).store.table.get r).state = .filled e' →
      e' < 4 ∨ (e' = 4 ∧ RingSector.s2.toNat ≤ r.toNat) := by
  intro r e' h1 h2
  cases r <;> first
    | (cases h2; done)
    | (cases h2; decide)

/-- Sector 15's header is read, with counts read before it. -/
def lastHeader (counts : PerRing (Option Nat)) (bs : List Byte) : State :=
  let s := scanning (.header .s15)
  { s with
    store := { s.store with op := some { opOf .scanRead with sector := .ring .s15, slot := 0 } }
    scan := { s.scan with counts := counts }
    array := Memory.program [] (15 * 1024) bs }

theorem witness_RingScanSettles_last :
    (let s := lastHeader (PerRing.all none) (fieldBytes 3 100000);
      s.scan.step = .header .s15 ∧ classifyHeader (Memory.readBytes s.array (15 * 1024) 32) = .settled .worn ∧
        ∀ q, q ≠ .s2 → q ≠ .s15 → s.scan.counts.get q = none) ∧
    (let s := lastHeader (PerRing.all (some 100000)) (fieldBytes 3 5 ++ fieldBytes 4 6);
      classifyHeader (Memory.readBytes s.array (15 * 1024) 32) = .settled (.filled 6) ∧
        s.scan.counts.get .s2 = some 100000) ∧
    (let s := headed (.content .s15 31) [];
      s.power.pfailFiltered = false ∧ s.link.jobs = [] ∧ s.sched.queue = [] ∧ s.store.holder = none) := by
  refine ⟨⟨rfl, by decide +kernel, ?_⟩, by decide +kernel, by decide⟩
  intro q _ _
  cases q <;> rfl

theorem witness_RingScanSettles_none_in_use :
    ∀ r, (if r = .s15 then SectorState.erased else ((headed (.content .s15 31) []).store.table.get r).state).isInUse = false := by
  intro r
  cases r <;> rfl

theorem witness_RingScanSettles_torn :
    (let s := busy (opOf .ringErase) run;
      ArrayLaw s ∧ s.store.op = some (opOf .ringErase) ∧ (opOf .ringErase).sector = .ring .s2 ∧ s.supply.powered = true ∧
        s.supply.resetLine = false ∧ (∃ t, exec .resetLineActive s = .next t) ∧ ∃ t, exec .supplyLoss s = .next t) ∧
    (let s := busy { opOf .ringErase with aborting := true } (dev .flush);
      s.store.op = some { opOf .ringErase with aborting := true } ∧ ∃ t, exec (.eraseEnd .aborted) s = .next t) :=
  ⟨⟨rfl, rfl, rfl, rfl, rfl, ⟨_, rfl⟩, _, rfl⟩, rfl, _, rfl⟩

theorem witness_RingScanSettles_head :
    ((headed (.head .s2 4 1) []).scan.step = .head .s2 4 1 ∧
      allFF (Memory.readBytes (headed (.head .s2 4 1) []).array (3 * 1024) 32) = true) ∧
    allFF (Memory.readBytes (headed (.head .s2 4 31) [0]).array (3 * 1024) 32) = false := by
  decide +kernel

/-- REBUILD reads slot 1 of sector 3, FILLED. -/
def rebuilding (n : Nat) (bs : List Byte) : State := sector .s3 (.filled 1) (headed (.rebuild .s3 n) bs)

/-- A record's 32 bytes with its confirm mark. -/
def record : List Byte :=
  recordBytes { channel := .ch0, cause := .interval, tariff := .t1, buckets := PerTariff.all 2, lost := 3 } 9 ++ [0]

theorem witness_RebuildTakesTheNewestAndEntersRun :
    ((rebuilding 1 record).scan.step = .rebuild .s3 1 ∧ 1 < (rebuilding 1 record).rebuildSlots .s3 ∧
      (parseRecord (Memory.readBytes (rebuilding 1 record).array (3 * 1024) 32)).isSome = true) ∧
    parseRecord (Memory.readBytes (rebuilding 30 []).array (3 * 1024) 32) = none ∧
    ((rebuilding 31 []).scan.step = .rebuild .s3 31 ∧ (rebuilding 31 []).rebuildSlots .s3 ≤ 31 ∧
      (rebuilding 31 []).power.pfailFiltered = false ∧ (rebuilding 31 []).link.jobs = [] ∧
      (rebuilding 31 []).sched.queue = [] ∧ (rebuilding 31 []).store.holder = none) := by decide +kernel

theorem witness_RebuildTakesTheNewest_lower :
    (let s := sector .s5 (.filled 2) (rebuilding 31 record);
      s.rebuildSlots .s3 ≤ 31 ∧ 1 ≤ s.rebuildSlots .s5 ∧ s.rebuildSlots .s4 = 0 ∧
        (parseRecord (Memory.readBytes s.array (3 * 1024) 32)).map ReadRecord.sequence = some 9) ∧
    (let s : State := { rebuilding 1 record with scan := { (rebuilding 1 record).scan with newest := some (10, .t2) } };
      s.scan.newest = some (10, .t2) ∧ 9 < 10) := by
  decide +kernel

/-- REBUILD's last read with PFAIL active. -/
def failing : State :=
  let s := rebuilding 31 []
  { s with power := { s.power with pfailFiltered := true } }

theorem witness_RebuildEnds_failing :
    (failing.scan.step = .rebuild .s3 31 ∧ failing.power.pfailFiltered = true ∧ failing.link.requests = [] ∧
      failing.link.jobs = [] ∧ failing.link.transmitting = false ∧ failing.link.replies = []) ∧
    (∀ c, (failing.store.map.get c).version = 0) ∧
    (after .scanReadEnd failing).power.device = .retain ∧
    (after .scanReadEnd failing).notices.records.power = { pending := true, count := 2, detail := .power .flushComplete } := by
  refine ⟨by decide, ?_, by decide +kernel, by decide +kernel⟩
  intro c
  cases c <;> rfl

theorem witness_RebuildEnds_above :
    ∀ q : RingSector, RingSector.s3.toNat < q.toNat → (rebuilding 31 []).rebuildSlots q = 0 := by
  intro q h
  cases q <;> first | (exact absurd h (by decide)) | rfl

/-! ## Ends of array operations -/

/-- FLUSH while a commit begun in RUN holds the array. -/
def cut (t : Task) : State := held (commitHold .interval 0) (busy (opOf t) (dev .flush))

theorem witness_RecordProgramEndLeadsToTheConfirmMark :
    (let s := held (commitHold .interval 1) (busy (opOf .recordProgram) run);
      s.store.op = some (opOf .recordProgram) ∧ s.store.holder = some (commitHold .interval 1) ∧
        (commitHold .interval 1).place = some { sector := .s2, slot := 1 } ∧
        (opOf .recordProgram).task = .recordProgram ∧ (commitHold .interval 1).attempts < 2 ∧
        ¬ (s.power.device = .flush ∧ (commitHold .interval 1).job.isFlush = false)) ∧
    (let s := held (commitHold .interval 2) (busy (opOf .confirmProgram) run);
      s.store.op = some (opOf .confirmProgram) ∧ ¬ (commitHold .interval 2).attempts < 2) ∧
    ((cut .recordProgram).power.device = .flush ∧ (commitHold .interval 0).job.isFlush = false ∧
      (cut .recordProgram).store.op = some (opOf .recordProgram)) ∧
    (cut .confirmProgram).store.op = some (opOf .confirmProgram) := by decide

theorem witness_PassedConfirmMarkDesignatesTheRecord :
    (let s := held (commitHold .interval 0) (busy (opOf .confirmProgram) (recorded .s5 run));
      s.store.op = some (opOf .confirmProgram) ∧ (opOf .confirmProgram).task = .confirmProgram ∧
        s.store.holder = some (commitHold .interval 0) ∧
        (commitHold .interval 0).place = some { sector := .s2, slot := 1 } ∧
        (commitHold .interval 0).job = .commit (commitJob .interval)) ∧
    (let s := phased (.copy .s3 7) (held copyHold (busy (opOf .confirmProgram) run));
      s.store.holder = some copyHold ∧ copyHold.place = some { sector := .s2, slot := 1 } ∧
        s.engine.phase = .copy .s3 7) ∧
    (phased (.copy .s3 6) run).engine.phase = .copy .s3 6 := by decide

/-- An epoch program of sector 2 is in progress. -/
def epoch (s : State) : State := held (commitHold .interval 0) (busy (opOf .epochProgram) s)

theorem witness_EpochProgramEndOpensTheHead :
    ((epoch run).store.op = some (opOf .epochProgram) ∧ (opOf .epochProgram).task = .epochProgram ∧
      (opOf .epochProgram).sector = .ring .s2 ∧ (epoch run).store.holder = some (commitHold .interval 0) ∧
      (commitHold .interval 0).job.content ≠ none ∧
      ¬ ((epoch run).power.device = .flush ∧ (commitHold .interval 0).job.isFlush = false)) ∧
    ((epoch (dev .flush)).power.device = .flush ∧ (commitHold .interval 0).job.isFlush = false) ∧
    ((epoch run).openSector? = none ∧
      ((sector .s2 .spoiled (epoch run)).store.table.get .s3).state = .erased ∧
      ∀ q, q ≠ .s3 → ((sector .s2 .spoiled (epoch run)).store.table.get q).state = .erased →
        ((sector .s2 .spoiled (epoch run)).store.table.get .s3).eraseCount <
            ((sector .s2 .spoiled (epoch run)).store.table.get q).eraseCount ∨
          (((sector .s2 .spoiled (epoch run)).store.table.get .s3).eraseCount =
              ((sector .s2 .spoiled (epoch run)).store.table.get q).eraseCount ∧ RingSector.s3.toNat < q.toNat)) ∧
    ((epoch (all .worn run)).openSector? = none ∧
      ∀ k, ((sector .s2 .spoiled (epoch (all .worn run))).store.table.get k).state ≠ .erased) := by
  refine ⟨by decide, by decide, ⟨rfl, rfl, ?_⟩, rfl, ?_⟩
  · intro q; cases q <;> decide
  · intro k; cases k <;> decide

/-- A copy's read of sector 3 slot 1 is in progress, with a record there. -/
def copying (sequence : Nat) (d : Device) : State :=
  let s := held readingHold (busy { opOf .copyRead with sector := .ring .s3 } (recorded .s3 (sector .s3 (.filled 1) (dev d))))
  { s with
    store :=
      { s.store with
        map := s.store.map.set .ch0
          { s.store.map.get .ch0 with
            designated := some { location := { sector := .s3, slot := 1 }, sequence := sequence } } }
    array := Memory.program [] (3 * 1024 + 32) record }

theorem witness_CopyReadEndChecksAndWrites :
    (let s := copying 9 .run;
      s.store.op = some { opOf .copyRead with sector := .ring .s3 } ∧ s.store.holder = some readingHold ∧
        readingHold.job = .reading .ch0 .s3 ∧ s.power.device ≠ .flush ∧
        (parseRecord (Memory.readBytes s.array (3 * 1024 + 32) 32)).map (fun x => (x.content.channel, x.sequence)) =
          some (.ch0, 9) ∧
        (s.store.map.get .ch0).designated = some { location := { sector := .s3, slot := 1 }, sequence := 9 } ∧
        (s.store.table.get .s3).state.isInUse = true) ∧
    ((parseRecord (Memory.readBytes (copying 8 .run).array (3 * 1024 + 32) 32)).map ReadRecord.sequence ≠ some 8 ∧
      ((copying 8 .run).store.map.get .ch0).designated =
        some { location := { sector := .s3, slot := 1 }, sequence := 8 }) ∧
    (copying 9 .flush).power.device = .flush := by decide +kernel

theorem witness_CompactionOperationEnds :
    ((busy (opOf .retireProgram) run).store.op = some (opOf .retireProgram) ∧ (opOf .retireProgram).sector = .ring .s2) ∧
    (let s := phased (.erase .s2 1) (busy (opOf .ringErase) run);
      s.store.op = some (opOf .ringErase) ∧ s.engine.phase = .erase .s2 1 ∧ (opOf .ringErase).aborting = false ∧ 1 < 2) ∧
    (phased (.erase .s2 2) run).engine.phase = .erase .s2 2 ∧
    ({ opOf .ringErase with aborting := true } : Operation).aborting = true ∧
    (counting.store.op = some (opOf .countProgram) ∧ counting.engine.phase = .count .s2 ∧
      (counting.store.table.get .s2).eraseCount + 1 < 100000) ∧
    (let s : State :=
      { counting with
        store :=
          { counting.store with
            table := counting.store.table.set .s2 { state := .retiring, eraseCount := 99999, mapRecords := 0 } } };
      100000 ≤ (s.store.table.get .s2).eraseCount + 1) := by decide

/-- An APPLY job at a step. -/
def applying (x : ApplyStep) (t : Task) : State :=
  busy (opOf t) (jobs [job (.apply Configuration.default (some { target := .b, generation := 2, step := x }))] run)

theorem applying_link (x : ApplyStep) (t : Task) : LinkLaw (applying x t) := by
  constructor
  · exact Nat.zero_le 4
  · exact Nat.le_succ 1
  · exact List.nodup_singleton _
  · rfl
  · exact Nat.le_add_right 1 5
  · intro h; exact nomatch h

/-- A READ_SLOT job whose read is in progress. -/
def slotReading : State := busy (opOf .slotRead) (jobs [job (.readSlot (.ring .s2) 1)] run)

theorem slotReading_link : LinkLaw slotReading := by constructor <;> decide

theorem run_link : LinkLaw (busy (opOf .slotRead) run) := by constructor <;> decide

theorem witness_HostJobOperationEnds :
    (LinkLaw (applying .erase .configErase) ∧ (applying .erase .configErase).store.op = some (opOf .configErase) ∧
      (opOf .configErase).aborting = false ∧
      (applying .erase .configErase).arrayJob? =
        some (job (.apply Configuration.default (some { target := .b, generation := 2, step := .erase })))) ∧
    (LinkLaw (applying (.program 1) .imageProgram) ∧
      (applying (.program 1) .imageProgram).arrayJob? =
        some (job (.apply Configuration.default (some { target := .b, generation := 2, step := .program (0 + 1) })))) ∧
    (LinkLaw (applying (.program 0) .imageProgram) ∧
      (applying (.program 0) .imageProgram).arrayJob? =
        some (job (.apply Configuration.default (some { target := .b, generation := 2, step := .program 0 })))) ∧
    (LinkLaw slotReading ∧ slotReading.arrayJob? = some (job (.readSlot (.ring .s2) 1)) ∧
      slotReading.store.op = some (opOf .slotRead)) ∧
    (LinkLaw (busy (opOf .slotRead) run) ∧ (busy (opOf .slotRead) run).arrayJob? = none) :=
  ⟨⟨applying_link _ _, rfl, rfl, rfl⟩, ⟨applying_link _ _, rfl⟩, ⟨applying_link _ _, rfl⟩, ⟨slotReading_link, rfl, rfl⟩,
    run_link, rfl⟩

/-! ## The serial line -/

theorem witness_ReceiverTakesEachCharacter :
    (run.alive = true ∧ run.link.receiver = .hunt ∧ (0xC2 : Byte) ≠ 0xC3) ∧
    ((receiving .length run).link.receiver = .length ∧ 2 ≤ (2 : Byte).toNat ∧ (62 : Byte).toNat ≤ 62 ∧
      (1 : Byte).toNat < 2 ∧ 62 < (63 : Byte).toNat) ∧
    ((receiving (.body 3 [1]) run).link.receiver = .body 3 [1] ∧ [(1 : Byte)].length + 1 < 3) ∧
    ((receiving (.body 2 [1]) run).link.receiver = .body 2 [1] ∧ 2 ≤ [(1 : Byte)].length + 1) ∧
    (receiving (.check 2 [1, 7] none) run).link.receiver = .check 2 [1, 7] none ∧
    ((receiving (.check 2 [1, 7] (some 0)) run).link.receiver = .check 2 [1, 7] (some 0) ∧
      crcBytes (BitVec.ofNat 8 2 :: [1, 7]) ≠ [0, 0]) ∧
    ((receiving .length run).link.gap = some 4 ∧ 5 ≤ 4 + 1) := by decide +kernel

/-- A PING's frame with TAG 7 before its last check byte. -/
def framed (s : State) : State := receiving (.check 2 [1, 7] ((crcBytes [2, 1, 7])[0]?)) s

theorem witness_GoodFramesAreAdmittedByTheTests :
    (let s := framed run; s.alive = true ∧
      (∃ first last : Byte, s.link.receiver = .check 2 (1 :: 7 :: []) (some first) ∧
        crcBytes (BitVec.ofNat 8 2 :: 1 :: 7 :: []) = [first, last]) ∧
      s.power.device = .run ∧ s.link.requests.length < 4 ∧ s.link.credits < 6) ∧
    (framed (dev .retain)).power.device ≠ .run ∧
    (let s : State := framed { run with link := { run.link with credits := 6 } }; 6 ≤ s.link.credits) ∧
    (let s : State := framed { run with link := { run.link with requests := List.replicate 4 { kind := 1, tag := 7, payload := [] } } };
      4 ≤ s.link.requests.length) := by
  refine ⟨⟨rfl, ⟨_, _, rfl, rfl⟩, rfl, by decide, by decide⟩, by decide, by decide, by decide⟩

theorem witness_WholeFramesAreAdmittedAsSent :
    run.alive = true ∧ run.link.receiver = .hunt ∧ run.rdy = true ∧ (List.replicate 60 (0xC3 : Byte)).length ≤ 60 := by
  decide

theorem witness_ReplySentReturnsTheCredit :
    (let s := replying [pinged] run;
      s.link.transmitting = true ∧ s.link.replies = pinged :: [] ∧ ¬ (pinged.kind = 0xB0 ∧ pinged.status = 0) ∧
        s.power.replyWait = false) ∧
    (let s := replying [restarted] (dev .retain);
      s.link.replies = restarted :: [] ∧ (restarted.kind = 0xB0 ∧ restarted.status = 0) ∧ s.power.device ≠ .run ∧
        s.power.replyWait = false) ∧
    (let s := replying [restarted] (busy (opOf .slotRead) run);
      s.power.device = .run ∧ s.store.op = some (opOf .slotRead)) ∧
    (let s : State := replying [pinged] { dev .flush with power := { (dev .flush).power with replyWait := true } };
      s.link.transmitting = true ∧ s.power.replyWait = true ∧ s.power.device = .flush) := by decide

/-! ## Requests -/

/-- A request asked of a part in RUN is at the head of the queue. -/
theorem asked_atHead (s : State) (kind : Byte) (p : List Byte) (h : s.power.device = .run) :
    AtHead (asked kind p s) kind 7 p [] := ⟨h, rfl⟩

theorem jobs_full : (asked 0x11 [1] (jobs twoJobs run)).jobsFull := by
  constructor
  · exact ⟨_, List.mem_cons_self, rfl⟩
  · exact ⟨_, List.mem_cons_of_mem _ List.mem_cons_self, rfl⟩

/-- With the first entry taken the second is the free one. -/
theorem second_free : (jobs [job (.loadWait .ch0)] run).freeJob .second := by
  constructor
  · decide
  · intro _; exact ⟨_, List.mem_cons_self, rfl⟩

theorem first_free : (jobs [] run).freeJob .first := by
  constructor
  · decide
  · intro h; exact nomatch h

theorem witness_StatusAndTotalsRequestsReport :
    AtHead (asked 0x01 [] run) 0x01 7 [] [] ∧ AtHead (asked 0x02 [] run) 0x02 7 [] [] ∧
    (∀ k : NoticeKind, (0 : Byte).getLsbD k.number = ((asked 0x02 [] run).notices.records.get k).pending) ∧
    AtHead (asked 0x03 [7] run) 0x03 7 [7] [] ∧ (7 : Byte).toNat = Channel.ch7.toNat ∧ 8 ≤ (8 : Byte).toNat ∧
    AtHead (asked 0x04 [0] run) 0x04 7 [0] [] ∧ ((asked 0x04 [0] run).store.map.get .ch0).designated = none ∧
    ((asked 0x04 [0] (recorded .s2 run)).store.map.get .ch0).designated =
      some { location := { sector := .s2, slot := 1 }, sequence := 1 } := by
  refine ⟨⟨rfl, rfl⟩, ⟨rfl, rfl⟩, ?_, ⟨rfl, rfl⟩, rfl, by decide, ⟨rfl, rfl⟩, rfl, rfl⟩
  intro k
  cases k <;> rfl

theorem witness_StoreMapAndConfigRequestsReport :
    AtHead (asked 0x05 [15] run) 0x05 7 [15] [] ∧
    ([RingSector.s15].map RingSector.toNat = (List.range (min 8 (16 - (15 : Byte).toNat))).map (· + (15 : Byte).toNat) ∧
      2 ≤ (15 : Byte).toNat ∧ (15 : Byte).toNat ≤ 15) ∧
    ([RingSector.s2, .s3, .s4, .s5, .s6, .s7, .s8, .s9].map RingSector.toNat =
      (List.range (min 8 (16 - (2 : Byte).toNat))).map (· + (2 : Byte).toNat)) ∧
    ((1 : Byte).toNat < 2 ∧ 15 < (16 : Byte).toNat) ∧
    AtHead (asked 0x24 [1, 7] run) 0x24 7 [1, 7] [] ∧ ((1 : Byte).toNat ≤ 1 ∧ (7 : Byte).toNat = Channel.ch7.toNat) ∧
    (1 < (2 : Byte).toNat ∧ 8 < (9 : Byte).toNat) ∧
    (StagedLaw (asked 0x24 [1, 7] run) ∧ (asked 0x24 [1, 7] run).service.session = .closed) := by
  refine ⟨⟨rfl, rfl⟩, by decide, by decide, by decide, ⟨rfl, rfl⟩, by decide, by decide, fun _ => rfl, rfl⟩

theorem witness_SetTariffSwitchesUnderHost :
    AtHead (asked 0x10 [3] run) 0x10 7 [3] [] ∧ (3 : Byte).toNat = Tariff.t3.toNat ∧
    (asked 0x10 [3] run).config.live.globals.tariffSource = .host ∧
    (asked 0x10 [3] (busy (opOf .slotRead) run)).store.op ≠ none ∧ (asked 0x10 [3] run).store.op = none ∧
    Tariff.t0 = run.accum.tariff ∧ 3 < (4 : Byte).toNat ∧
    (AtHead (asked 0x10 [3] (underLines run)) 0x10 7 [3] [] ∧ (3 : Byte).toNat ≤ 3 ∧
      (underLines run).config.live.globals.tariffSource = .lines) ∧
    ((exhausted run).store.exhausted = true ∧ (exhausted run).sched.queue = []) :=
  ⟨⟨rfl, rfl⟩, rfl, rfl, nofun, rfl, rfl, by decide, ⟨⟨rfl, rfl⟩, by decide, rfl⟩, rfl, rfl⟩

theorem witness_JobRequestsAreCheckedAndAccepted :
    AtHead (asked 0x06 [15, 31] run) 0x06 7 [15, 31] [] ∧ (15 : Byte).toNat = (Sector.ring .s15).toNat ∧
    (31 : Byte).toNat ≤ 31 ∧ 15 < (16 : Byte).toNat ∧ 31 < (32 : Byte).toNat ∧
    AtHead (asked 0x11 [1] run) 0x11 7 [1] [] ∧ (1 : Byte) ≠ 0 ∧
    (asked 0x11 [1] (jobs twoJobs run)).jobsFull ∧ (jobs [] run).freeJob .first ∧
    (jobs [job (.loadWait .ch0)] run).freeJob .second ∧
    (let s := asked 0x27 (7 :: bucketBytes (PerTariff.all 1)) (serviced run);
      AtHead s 0x27 7 (7 :: bucketBytes (PerTariff.all 1)) [] ∧ s.service.session = .opened 0 ∧
        (7 : Byte).toNat = Channel.ch7.toNat) ∧
    7 < (8 : Byte).toNat ∧ run.service.session = .closed :=
  ⟨⟨rfl, rfl⟩, rfl, by decide, by decide, by decide, ⟨rfl, rfl⟩, by decide, jobs_full, first_free, second_free,
    ⟨⟨rfl, rfl⟩, rfl, rfl⟩, by decide, rfl⟩

theorem witness_UnknownKindsAndWrongLengthsAreRefused :
    (RequestKind.ofCode? 0x07 = none ∧ AtHead (asked 0x07 [] run) 0x07 7 [] []) ∧
    ((Instr.commit 7 []).wellFormed = true ∧ (Instr.commit 7 []).request? = some (RequestKind.commit.code, 7, []) ∧
      AtHead (asked 0x11 [] run) RequestKind.commit.code 7 [] [] ∧
      ([] : List Byte).length ≠ RequestKind.commit.payloadLength) ∧
    AtHead (asked 0x30 [] run) 0x30 7 [] [] :=
  ⟨⟨rfl, rfl, rfl⟩, ⟨rfl, rfl, ⟨rfl, rfl⟩, by decide⟩, rfl, rfl⟩

/-- POWER and, masked, ROLLOVER are pending. -/
def noticed : State :=
  let s := (run.raise .power (.power .resumed)).raise .rollover (.rollover 1 1)
  { s with notices := { s.notices with mask := 0x80 } }

theorem witness_FetchNoticeReturnsTheHighestEligibleKind :
    (AtHead (asked 0x18 [2] noticed) 0x18 7 [2] [] ∧ 1 < (2 : Byte).toNat) ∧
    (AtHead (asked 0x18 [0] run) 0x18 7 [0] [] ∧ (0 : Byte).toNat ≤ 1 ∧
      ∀ k, ¬ ((run.notices.records.get k).pending = true ∧
        ((0 : Byte) = 1 ∨ k = .power ∨ run.notices.mask.getLsbD k.number = false))) ∧
    (AtHead (asked 0x18 [1] noticed) 0x18 7 [1] [] ∧ (1 : Byte).toNat ≤ 1 ∧
      (noticed.notices.records.get .power).pending = true ∧
      (∀ j : NoticeKind, NoticeKind.power.number ≤ j.number) ∧
      (∀ j : NoticeKind, (0x80 : Byte).getLsbD j.number = ((noticed.notices.records.get j).pending && j != .power)) ∧
      (noticed.notices.records.get .power).detail = .power .resumed) := by
  refine ⟨⟨⟨rfl, rfl⟩, by decide⟩, ⟨⟨rfl, rfl⟩, by decide, ?_⟩, ⟨rfl, rfl⟩, by decide, rfl, ?_, ?_, rfl⟩
  · intro k; cases k <;> decide
  · intro j; exact Nat.zero_le _
  · intro j; cases j <;> decide

theorem witness_AckArmsAndSetMaskReplacesTheMask :
    AtHead (asked 0x19 [] run) 0x19 7 [] [] ∧ AtHead (asked 0x1A [0xFF] run) 0x1A 7 [0xFF] [] ∧
    ((0xFE : Byte).getLsbD 0 = false ∧ ∀ i, 1 ≤ i → (0xFE : Byte).getLsbD i = (0xFF : Byte).getLsbD i) ∧
    (dev .retain).power.device ≠ .run := by
  refine ⟨⟨rfl, rfl⟩, ⟨rfl, rfl⟩, ⟨rfl, ?_⟩, by decide⟩
  intro i h
  by_cases h8 : i < 8
  · interval_cases i <;> rfl
  · rw [BitVec.getLsbD_of_ge _ _ (by omega), BitVec.getLsbD_of_ge _ _ (by omega)]

theorem witness_SessionRequestsOpenCloseDiscardAndApply :
    (AtHead (asked 0x20 [] run) 0x20 7 [] [] ∧ run.service.session = .closed ∧ run.service.svcFiltered = false) ∧
    (let s : State := { run with service := { run.service with svcFiltered := true } };
      AtHead (asked 0x20 [] s) 0x20 7 [] [] ∧ s.service.session = .closed ∧ s.service.svcFiltered = true) ∧
    (AtHead (asked 0x21 [] (serviced run)) 0x21 7 [] [] ∧ (serviced run).service.session = .opened 0) ∧
    AtHead (asked 0x26 [] (serviced run)) 0x26 7 [] [] ∧ AtHead (asked 0x25 [] (serviced run)) 0x25 7 [] [] ∧
    (let s : State := { serviced run with config := { run.config with generation := 200000 } };
      200000 ≤ s.config.generation) ∧
    (let s : State := { serviced run with config := { run.config with generation := 199999 } };
      s.config.generation < 200000) ∧
    (jobs [] run).freeJob .first ∧ (asked 0x11 [1] (jobs twoJobs run)).jobsFull :=
  ⟨⟨⟨rfl, rfl⟩, rfl, rfl⟩, ⟨⟨rfl, rfl⟩, rfl, rfl⟩, ⟨⟨rfl, rfl⟩, rfl⟩, ⟨rfl, rfl⟩, ⟨rfl, rfl⟩, by decide, by decide, first_free,
    jobs_full⟩

theorem witness_StageRequestsReplaceWholeSettings :
    (AtHead (asked 0x22 [7, 2, 1, 15, 1, 0, 255, 255, 255, 255] (serviced run)) 0x22 7
        [7, 2, 1, 15, 1, 0, 255, 255, 255, 255] [] ∧ (serviced run).service.session = .opened 0 ∧
      (7 : Byte).toNat = Channel.ch7.toNat ∧ (15 : Byte).toNat ≤ 15 ∧ (1 : Byte) ≠ 0) ∧
    (7 < (8 : Byte).toNat ∧ 2 < (3 : Byte).toNat ∧ 1 < (2 : Byte).toNat ∧ 15 < (16 : Byte).toNat) ∧
    (AtHead (asked 0x23 [0x10, 0x0E, 1, 1, 10, 0] (serviced run)) 0x23 7 [0x10, 0x0E, 1, 1, 10, 0] [] ∧
      (0x10 : Byte).toNat + 256 * (0x0E : Byte).toNat ≤ 3600 ∧ 10 ≤ (10 : Byte).toNat + 256 * (0 : Byte).toNat) ∧
    (3600 < (0x11 : Byte).toNat + 256 * (0x0E : Byte).toNat ∧ (9 : Byte).toNat + 256 * (0 : Byte).toNat < 10 ∧
      600 < (0x59 : Byte).toNat + 256 * (2 : Byte).toNat) ∧ run.service.session = .closed :=
  ⟨⟨⟨rfl, rfl⟩, rfl, rfl, by decide, by decide⟩, by decide, ⟨⟨rfl, rfl⟩, by decide, by decide⟩, by decide, rfl⟩

end Sys2Proof.Tests
end

section

-- One theorem at a time, as in the tests: many proofs elaborated at once each hold a thread's stack.
set_option Elab.async false

/-! The head of the request queue, taken and answered (R162, R163, R165): the steps every request's statement shares. -/

namespace Sys2Proof.Machine

variable {s : State} {k : RequestKind} {kind tag : Byte} {p : List Byte} {rest : List Request}

/-- The byte stands for itself, as a number's single byte (R171). -/
@[simp] theorem leBytes_one_toNat (b : Byte) : leBytes 1 b.toNat = [b] := by simp [leBytes]

@[simp] theorem field_zero_cons (b : Byte) (bs : List Byte) : field (b :: bs) 0 1 = b.toNat := by
  simp [field, slice, leNat]

@[simp] theorem field_one_cons_cons (a b : Byte) (bs : List Byte) : field (a :: b :: bs) 1 1 = b.toNat := by
  simp [field, slice, leNat]

theorem popRequest_eq (h : AtHead s kind tag p rest) :
    s.popRequest = { s with link := { s.link with requests := rest } } := by
  simp [State.popRequest, State.setLink, h.head]

@[simp] theorem popRequest_config (s : State) : s.popRequest.config = s.config := rfl

/-- A request of the right length at the queue head is taken and has its effect (R162, R163). -/
theorem executeAs_popRequest (effect : State → State) (h : AtHead s k.code tag p rest)
    (hp : p.length = k.payloadLength) : s.executeAs k tag p effect = effect s.popRequest := by
  rw [executeAs_atHead _ _ _ _ _ _ h, if_pos hp, popRequest_eq h]

/-- A reply in the happening that took the head, and nothing before it, leaves the part as the head's answer
(R163, R165). -/
theorem popRequest_reply (k : RequestKind) (a : Answer) (h : AtHead s kind tag p rest) :
    s.popRequest.reply k tag a = s.answered rest k.code tag a.status a.payload := by
  rw [popRequest_eq h]
  exact reply_eq_answered _ k tag a h.run

end Sys2Proof.Machine

/-! GET_STORE_MAP (R176) and READ_CONFIG (R184). -/

namespace Sys2Proof.Machine

variable {s : State} {tag : Byte} {rest : List Request}

@[simp] theorem Sector.ofNat?_toNat_ring (r : RingSector) : Sector.ofNat? r.toNat = some (.ring r) := by
  cases r <;> rfl

theorem RingSector.toNat_injective : Function.Injective RingSector.toNat := by
  intro a b h
  simpa using congrArg Sector.ofNat? h

/-- The numbers of the sectors GET_STORE_MAP reports: from the first on, at most 8 and none above 15 (R176). -/
theorem map_toNat_sectorsFrom : ∀ n : Nat, n ≤ 15 → 2 ≤ n →
    ((RingSector.all.filter (fun r => decide (n ≤ r.toNat))).take 8).map RingSector.toNat =
      (List.range (min 8 (16 - n))).map (· + n) := by
  decide

/-- One sector's 6 bytes, by its state: code, used slots, erase count, map records (R171, R176). -/
theorem sectorBytes_eq (e : SectorEntry) :
    State.sectorBytes e =
      (match e.state with
        | .erased => [0, 0]
        | .opened _ n => [1, BitVec.ofNat 8 (n - 1)]
        | .filled _ => [2, 31]
        | .retiring => [3, 31]
        | .spoiled => [4, 0]
        | .worn => [5, 0]) ++ leBytes 3 e.eraseCount ++ [BitVec.ofNat 8 e.mapRecords] := by
  obtain ⟨state, count, records⟩ := e
  cases state <;> rfl

/-- The sectors reported are known by their numbers (R176). -/
theorem storeMapPayload_eq (s : State) {b : Byte} {rs : List RingSector} (lo : 2 ≤ b.toNat) (hi : b.toNat ≤ 15)
    (hrs : rs.map RingSector.toNat = (List.range (min 8 (16 - b.toNat))).map (· + b.toNat)) :
    s.storeMapPayload b.toNat =
      [b, BitVec.ofNat 8 (min 8 (16 - b.toNat))] ++ rs.flatMap (fun r => State.sectorBytes (s.store.table.get r)) := by
  have hsame : (RingSector.all.filter (fun r => decide (b.toNat ≤ r.toNat))).take 8 = rs :=
    RingSector.toNat_injective.list_map ((map_toNat_sectorsFrom _ hi lo).trans hrs.symm)
  have hlength : rs.length = min 8 (16 - b.toNat) := by simpa using congrArg List.length hrs
  simp only [State.storeMapPayload, hsame, hlength, leBytes_one_toNat]
  rfl

/-- GET_STORE_MAP at the queue head is taken, and answers or is refused by its argument (R163, R176). -/
theorem exec_getStoreMap_atHead {b : Byte} (h : AtHead s 0x05 tag [b] rest) :
    exec (.getStoreMap tag [b]) s =
      .next (if 2 ≤ b.toNat ∧ b.toNat ≤ 15 then s.answered rest 0x05 tag .ok (s.storeMapPayload b.toNat)
        else s.answered rest 0x05 tag .badArgument []) := by
  have hexec : exec (.getStoreMap tag [b]) s = .next (s.popRequest.doGetStoreMap tag [b]) :=
    congrArg Host.Outcome.next (executeAs_popRequest (k := .getStoreMap) _ h rfl)
  rw [hexec]
  simp only [State.doGetStoreMap, State.refuse, field_zero_cons, popRequest_reply _ _ h]
  rfl

/-- The configuration a view of READ_CONFIG shows: 0 the live one, 1 the staged one, none above (R184). -/
def viewed (c : ConfigUnit) (view : Byte) : Option Configuration :=
  if view.toNat = 0 then some c.live else if view.toNat = 1 then some c.staged else none

/-- The settings READ_CONFIG finds for a view and an item, if it has both (R184). -/
def viewedItem (c : ConfigUnit) (view item : Byte) : Option (List Byte) :=
  (viewed c view).bind fun g => State.configItemBytes g item.toNat

theorem viewed_none (c : ConfigUnit) {view : Byte} (h : 1 < view.toNat) : viewed c view = none := by
  rw [viewed, if_neg (by omega), if_neg (by omega)]

/-- The staged view reads as the live one while the session is CLOSED (R103, R184). -/
theorem viewed_eq_some {view : Byte} {g : Configuration} (hview : view.toNat ≤ 1)
    (hlive : view = 0 → g = s.config.live)
    (hstaged : view = 1 → g = s.config.staged ∨ (StagedLaw s ∧ s.service.session = .closed ∧ g = s.config.live)) :
    viewed s.config view = some g := by
  have hcases : view = 0 ∨ view = 1 := by bv_omega
  obtain rfl | rfl := hcases
  · rw [hlive rfl]; rfl
  · have hg : g = s.config.staged := by
      obtain hg | ⟨law, closed, hg⟩ := hstaged rfl
      · exact hg
      · exact hg.trans (law closed).symm
    rw [hg]; rfl

theorem configItemBytes_channel (g : Configuration) (c : Channel) :
    State.configItemBytes g c.toNat = some (channelConfigBytes (g.channels.get c)) := by
  simp [State.configItemBytes]

theorem configItemBytes_none (g : Configuration) {n : Nat} (hn : 8 < n) : State.configItemBytes g n = none := by
  have hchannel : Channel.ofNat? n = none := by
    unfold Channel.ofNat?
    split <;> first | rfl | omega
  simp [State.configItemBytes, hchannel, Nat.ne_of_gt hn]

theorem viewedItem_none (c : ConfigUnit) {view item : Byte} (h : 1 < view.toNat ∨ 8 < item.toNat) :
    viewedItem c view item = none := by
  obtain hview | hitem := h
  · simp [viewedItem, viewed_none c hview]
  · cases hg : viewed c view with
    | none => simp [viewedItem, hg]
    | some g => simp [viewedItem, hg, configItemBytes_none g hitem]

/-- A channel's 9 bytes of settings, each code by its value (R100, R184). -/
theorem channelConfigBytes_eq (x : ChannelConfig) :
    channelConfigBytes x =
      [(match x.mode with
          | .off => 0
          | .edge => 1
          | .time => 2),
        (match x.polarity with
          | .rising => 0
          | .falling => 1),
        BitVec.ofNat 8 x.filter] ++ leBytes 2 x.weight ++ leBytes 4 x.threshold := by
  obtain ⟨mode, polarity, filter, weight, threshold⟩ := x
  cases mode <;> cases polarity <;> rfl

/-- The globals' 6 bytes of settings, each code by its value (R100, R184). -/
theorem globalConfigBytes_eq (x : GlobalConfig) :
    globalConfigBytes x =
      leBytes 2 x.commitInterval ++
        [(match x.tariffSource with
            | .host => (0 : Byte)
            | .lines => 1),
          if x.commitOnTariff = true then 1 else 0] ++ leBytes 2 x.idleTimeout := by
  obtain ⟨interval, source, onTariff, timeout⟩ := x
  cases source <;> rfl

/-- READ_CONFIG at the queue head is taken and executed (R163). -/
theorem exec_readConfig_atHead {view item : Byte} (h : AtHead s 0x24 tag [view, item] rest) :
    exec (.readConfig tag [view, item]) s = .next (s.popRequest.doReadConfig tag [view, item]) :=
  congrArg Host.Outcome.next (executeAs_popRequest (k := .readConfig) _ h rfl)

/-- READ_CONFIG reports the settings it finds, behind the view and the item asked for (R184). -/
theorem exec_readConfig_reports {view item : Byte} {bs : List Byte} (h : AtHead s 0x24 tag [view, item] rest)
    (hbs : viewedItem s.config view item = some bs) :
    exec (.readConfig tag [view, item]) s = .next (s.answered rest 0x24 tag .ok ([view, item] ++ bs)) := by
  rw [exec_readConfig_atHead h]
  simp only [viewedItem, viewed] at hbs
  simp only [State.doReadConfig, field_zero_cons, field_one_cons_cons, popRequest_config, hbs, leBytes_one_toNat,
    popRequest_reply _ _ h]
  rfl

/-- READ_CONFIG is refused where it finds no settings (R184). -/
theorem exec_readConfig_refused {view item : Byte} (h : AtHead s 0x24 tag [view, item] rest)
    (hnone : viewedItem s.config view item = none) :
    exec (.readConfig tag [view, item]) s = .next (s.answered rest 0x24 tag .badArgument []) := by
  rw [exec_readConfig_atHead h]
  simp only [viewedItem, viewed] at hnone
  simp only [State.doReadConfig, State.refuse, field_zero_cons, field_one_cons_cons, popRequest_config, hnone,
    popRequest_reply _ _ h]
  rfl

/-- Settles O53: GET_STORE_MAP by the numbers of the sectors it reports, READ_CONFIG by the settings a view and an item name. -/
theorem storeMapAndConfigRequestsReport : Obligations.StoreMapAndConfigRequestsReport := by
  unfold Obligations.StoreMapAndConfigRequestsReport
  intro s tag rest
  refine ⟨fun b h => ⟨fun rs hrs lo hi => ?inRange, fun hbad => ?outOfRange⟩,
    fun view item h => ⟨fun g hview hlive hstaged => ?found, fun hbad => ?notFound⟩⟩
  case inRange =>
    rw [exec_getStoreMap_atHead h, if_pos ⟨lo, hi⟩, storeMapPayload_eq s lo hi hrs]
    exact congrArg
      (fun f => Host.Outcome.next
        (s.answered rest 0x05 tag .ok ([b, BitVec.ofNat 8 (min 8 (16 - b.toNat))] ++ rs.flatMap f)))
      (funext fun r => sectorBytes_eq (s.store.table.get r))
  case outOfRange =>
    rw [exec_getStoreMap_atHead h, if_neg (by omega)]
  case found =>
    have hg : viewed s.config view = some g := viewed_eq_some hview hlive hstaged
    constructor
    · intro c hitem
      have hbs : viewedItem s.config view item = some (channelConfigBytes (g.channels.get c)) := by
        rw [viewedItem, hg, hitem]
        exact configItemBytes_channel g c
      rw [exec_readConfig_reports h hbs, channelConfigBytes_eq]
      rfl
    · rintro rfl
      have hbs : viewedItem s.config view 8 = some (globalConfigBytes g.globals) := by
        rw [viewedItem, hg]
        rfl
      rw [exec_readConfig_reports h hbs, globalConfigBytes_eq]
      rfl
  case notFound => exact exec_readConfig_refused h (viewedItem_none _ hbad)

end Sys2Proof.Machine

/-! What the scheduler, the record store and the arbiter carry over untouched: the request queue, the replies already
queued and the active tariff (R27, R162, R165). -/

namespace Sys2Proof.Machine

/-- The request queue and the active tariff stand as before, and no queued reply is lost. -/
structure Carries (s t : State) : Prop where
  requests : t.link.requests = s.link.requests
  replies : s.link.replies ⊆ t.link.replies
  tariff : t.accum.tariff = s.accum.tariff

namespace Carries

variable {bs : List Block} {s t u : State}

theorem refl (s : State) : Carries s s := ⟨rfl, List.Subset.refl _, rfl⟩

theorem trans (h : Carries s t) (h' : Carries t u) : Carries s u :=
  ⟨h'.requests.trans h.requests, List.Subset.trans h.replies h'.replies, h'.tariff.trans h.tariff⟩

theorem of_link_eq (hlink : t.link = s.link) (htariff : t.accum.tariff = s.accum.tariff) : Carries s t :=
  ⟨by rw [hlink], by rw [hlink]; exact List.Subset.refl _, htariff⟩

/-- What changes neither the link nor the accumulation unit. -/
theorem of_changes (h : Changes bs s t) (hlink : Block.link ∉ bs := by decide) (haccum : Block.accum ∉ bs := by decide) :
    Carries s t :=
  of_link_eq (h.link_eq hlink) (by rw [h.accum_eq haccum])

/-- What changes a part of the link that is neither of the two queues. -/
theorem of_setLink {x : HostLink} (hrequests : x.requests = s.link.requests) (hreplies : x.replies = s.link.replies) :
    Carries s (s.setLink x) :=
  ⟨hrequests, by simp [hreplies], rfl⟩

/-- A further step, named first, so that the state before it is known from it. -/
theorem after (h' : Carries t u) (h : Carries s t) : Carries s u := h.trans h'

theorem ite {p : Prop} [Decidable p] (h : Carries s t) (h' : Carries s u) : Carries s (if p then t else u) := by
  split <;> assumption

theorem foldl {α : Type} {f : State → α → State} (hf : ∀ x a, Carries x (f x a)) (l : List α) (s : State) :
    Carries s (l.foldl f s) :=
  List.foldlRecOn l f (refl s) fun x hx a _ => hx.trans (hf x a)

end Carries

namespace State

variable (s : State)

/-! ## Replies and waiters -/

theorem startTransmitter_carries : Carries s s.startTransmitter :=
  .ite (.of_setLink rfl rfl) (.refl s)

theorem answer_carries (kind tag : Byte) (a : Answer) : Carries s (s.answer kind tag a) :=
  (startTransmitter_carries _).after ⟨rfl, List.subset_append_left _ _, rfl⟩

theorem setJobState_carries (w : JobSlot) (j : JobState) : Carries s (s.setJobState w j) := .of_setLink rfl rfl

theorem endJob_carries (w : JobSlot) (a : Answer) : Carries s (s.endJob w a) := by
  unfold endJob
  split
  · exact .refl s
  · exact (answer_carries ..).after (.of_setLink rfl rfl)

theorem tell_carries (c : Channel) (o : Resolution) (w : JobSlot) : Carries s (s.tell c o w) := by
  unfold tell
  dsimp only
  split
  · split
    · exact endJob_carries ..
    · exact setJobState_carries ..
  · exact endJob_carries ..
  · exact .refl s

theorem tellAll_carries (c : Channel) (o : Resolution) (ws : List JobSlot) : Carries s (s.tellAll c o ws) :=
  .foldl (fun x w => tell_carries x c o w) ws s

/-! ## Causes, drains and tariff switches -/

theorem resolveEach_carries (q : List QueueEntry) :
    Carries s (q.foldl (fun s e => s.tellAll e.channel .exhausted e.waiters) s) :=
  Carries.foldl (f := fun s (e : QueueEntry) => s.tellAll e.channel .exhausted e.waiters)
    (fun x e => tellAll_carries x e.channel .exhausted e.waiters) q s

theorem resolveExhausted_carries : Carries s s.resolveExhausted :=
  (resolveEach_carries _ s.sched.queue).after (.of_changes (setSched_changes ..))

theorem deliverCause_carries (c : Channel) (k : Cause) (w : Option JobSlot) : Carries s (s.deliverCause c k w) := by
  unfold deliverCause
  dsimp only
  have hqueue := Carries.of_changes (setQueue_changes s (mergeCause s.sched.queue c k w))
  split
  · exact hqueue.trans (resolveExhausted_carries _)
  · exact hqueue

theorem deliverAll_carries (cs : List Channel) (k : Cause) (w : Option JobSlot) : Carries s (s.deliverAll cs k w) :=
  .foldl (fun x c => deliverCause_carries x c k w) cs s

/-- A drain counts into the active bucket and leaves the tariff (R19). -/
theorem drainCounts_carries (c : Channel) : Carries s (s.drainCounts c) := by
  refine .of_link_eq (drainCounts_changes s c).link_eq ?_
  unfold drainCounts
  dsimp only
  split
  · rw [(raise_changes ..).accum_eq]; rfl
  · rfl

theorem thresholdStep_carries (c : Channel) : Carries s (s.thresholdStep c) :=
  .ite (deliverCause_carries ..) (.refl s)

theorem drainAll_carries : Carries s s.drainAll :=
  .foldl (fun x c => (drainCounts_carries x c).trans (thresholdStep_carries _ c)) _ s

/-- A switch to the active tariff is no switch (R28). -/
theorem tariffSwitch_active {t : Tariff} (h : t = s.accum.tariff) : s.tariffSwitch t = s := if_pos h

/-- With TARIFF queued or not, a switch ends in its new tariff (R28). -/
theorem tariffSwitch_tariff (t : Tariff) : (s.tariffSwitch t).accum.tariff = t := by
  unfold tariffSwitch
  dsimp only
  split
  next heq => exact heq.symm
  next =>
    split
    · exact (deliverAll_carries ..).tariff
    · rfl

theorem tariffSwitch_requests (t : Tariff) : (s.tariffSwitch t).link.requests = s.link.requests := by
  unfold tariffSwitch
  dsimp only
  split
  next => rfl
  next =>
    split
    · rw [(deliverAll_carries ..).requests, setAccum_link, s.drainAll_carries.requests]
    · rw [setAccum_link, s.drainAll_carries.requests]

/-! ## The arbiter in RUN -/

theorem commitFails_carries (j : CommitJob) (fault : Option RingSector) : Carries s (s.commitFails j fault) := by
  unfold commitFails
  dsimp only
  have hfree := Carries.of_changes (setHolder_changes s none)
  refine Carries.ite ((Carries.of_changes (setPower_changes ..)).after ((tellAll_carries ..).after ?_))
    ((tellAll_carries ..).after ?_)
  all_goals
    cases fault with
    | some r => exact (Carries.of_changes (storeFault_changes ..)).after hfree
    | none =>
      exact ((Carries.of_changes (setFree_changes ..)).after (.of_changes (raise_changes ..))).after hfree

theorem copyFails_carries (t : RingSector) (fault : Option RingSector) : Carries s (s.copyFails t fault) :=
  .of_changes (copyFails_changes ..)

theorem jobFails_carries (h : Hold) : Carries s (s.jobFails h) := by
  unfold jobFails
  split
  · exact commitFails_carries ..
  · exact copyFails_carries ..
  · exact copyFails_carries ..

theorem openHead_carries (h : Hold) : Carries s (s.openHead h) := by
  unfold openHead
  dsimp only
  have hfill := Carries.of_changes (fillFullHead_changes s)
  split
  · exact (jobFails_carries ..).after hfill
  · exact ((Carries.of_changes (beginOp_changes ..)).after (.of_changes (setStore_changes ..))).after hfill

theorem takeSlot_carries (h : Hold) : Carries s (s.takeSlot h) := by
  unfold takeSlot
  split
  · exact openHead_carries ..
  · split
    · split
      · exact .of_changes (beginRecord_changes ..)
      · exact openHead_carries ..
    · exact openHead_carries ..

theorem nextAttempt_carries (h : Hold) : Carries s (s.nextAttempt h) :=
  .ite (jobFails_carries ..) (takeSlot_carries ..)

theorem startCommit_carries (e : QueueEntry) : Carries s (s.startCommit e) := by
  unfold startCommit
  dsimp only
  refine (drainCounts_carries s e.channel).trans ?_
  split
  · exact (nextAttempt_carries ..).after (.of_changes (setHolder_changes ..))
  · exact tellAll_carries ..

theorem beginApplyStep_carries (w : JobSlot) (image : Configuration) (p : ApplyProgress) :
    Carries s (s.beginApplyStep w image p) := by
  unfold beginApplyStep
  dsimp only
  split <;> exact (Carries.of_changes (beginOp_changes ..)).after (setJobState_carries ..)

theorem jobStep_carries (j : HostJob) : Carries s (s.jobStep j) := by
  unfold jobStep
  split
  · exact .of_changes (beginOp_changes ..)
  · exact beginApplyStep_carries ..
  · split
    · exact endJob_carries ..
    · exact beginApplyStep_carries ..
  · exact .refl s

theorem compactIfReady_carries : Carries s s.compactIfReady := .of_changes (compactIfReady_changes s)

theorem takeHead_carries : Carries s s.takeHead := by
  unfold takeHead
  split
  · exact compactIfReady_carries s
  · split
    · exact (startCommit_carries ..).after (.of_changes (setSched_changes ..))
    · exact (compactIfReady_carries _).after (.of_changes (setSched_changes ..))

theorem chooseRun_carries : Carries s s.chooseRun := by
  unfold chooseRun
  split
  · exact .of_changes (engineStep_changes s)
  · split
    · exact jobStep_carries ..
    · split
      · exact .refl s
      · exact takeHead_carries s

theorem arbitrateRun_carries (n : Nat) : Carries s (arbitrateRun n s) := by
  induction n generalizing s with
  | zero => exact .refl s
  | succ n ih =>
    unfold arbitrateRun
    split
    · exact (chooseRun_carries s).trans (ih _)
    · exact .refl s

end State

end Sys2Proof.Machine

/-! The tariff numbers (R27). -/

namespace Sys2Proof.Tariff

@[simp] theorem ofNat?_toNat (t : Tariff) : ofNat? t.toNat = some t := by cases t <;> rfl

theorem ofNat?_eq_none {n : Nat} (h : 3 < n) : ofNat? n = none := by
  unfold ofNat?
  split <;> first | rfl | omega

theorem exists_ofNat?_eq_some {n : Nat} (h : n ≤ 3) : ∃ t, ofNat? n = some t := by
  interval_cases n <;> exact ⟨_, rfl⟩

end Sys2Proof.Tariff

/-! SET_TARIFF (R29, R178): the switch, its reply, and the arbiter's choice behind it; and through all of them the empty
commit queue of an EXHAUSTED store (R51). -/

namespace Sys2Proof.Machine

/-- The store is EXHAUSTED and the commit queue is empty (R51). -/
structure QueueResolved (s : State) : Prop where
  exhausted : s.store.exhausted = true
  empty : s.sched.queue = []

namespace QueueResolved

variable {bs : List Block} {s t : State}

theorem of_changes (hs : QueueResolved s) (h : Changes bs s t) (hstore : Block.store ∉ bs := by decide)
    (hsched : Block.sched ∉ bs := by decide) : QueueResolved t :=
  ⟨by rw [h.store_eq hstore, hs.exhausted], by rw [h.sched_eq hsched, hs.empty]⟩

theorem foldl {α : Type} {f : State → α → State} (hf : ∀ x a, QueueResolved x → QueueResolved (f x a)) (l : List α)
    (hs : QueueResolved s) : QueueResolved (l.foldl f s) :=
  List.foldlRecOn l f hs fun x hx a _ => hf x a hx

/-- While the store is EXHAUSTED a cause's entry is resolved in the happening that delivers it (R51). -/
theorem deliverCause (c : Channel) (k : Cause) (w : Option JobSlot) (hs : QueueResolved s) :
    QueueResolved (s.deliverCause c k w) where
  exhausted := by rw [(State.deliverCause_changes s c k w).store_eq, hs.exhausted]
  empty := by
    have hexhausted : (s.setQueue (mergeCause s.sched.queue c k w)).store.exhausted = true := hs.exhausted
    simp only [State.deliverCause, hexhausted, if_true, State.resolveExhausted]
    rw [(Changes.foldl (bs := [.link])
      (fun x (e : QueueEntry) => State.tellAll_changes x e.channel .exhausted e.waiters) _ _).sched_eq]
    rfl

theorem deliverAll (cs : List Channel) (k : Cause) (w : Option JobSlot) (hs : QueueResolved s) :
    QueueResolved (s.deliverAll cs k w) :=
  foldl (fun _ c hx => hx.deliverCause c k w) cs hs

theorem drain (c : Channel) (hs : QueueResolved s) : QueueResolved (s.drain c) := by
  have hcounted : QueueResolved (s.drainCounts c) := hs.of_changes (State.drainCounts_changes s c)
  unfold State.drain State.thresholdStep
  split
  · exact hcounted.deliverCause c .threshold none
  · exact hcounted

theorem drainAll (hs : QueueResolved s) : QueueResolved s.drainAll := foldl (fun _ c hx => hx.drain c) _ hs

theorem tariffSwitch (t : Tariff) (hs : QueueResolved s) : QueueResolved (s.tariffSwitch t) := by
  have hswitched : QueueResolved (s.drainAll.setAccum { s.drainAll.accum with tariff := t }) :=
    hs.drainAll.of_changes (State.setAccum_changes ..)
  unfold State.tariffSwitch
  dsimp only
  split
  next => exact hs
  next =>
    split
    · exact hswitched.deliverAll ..
    · exact hswitched

end QueueResolved

namespace State

variable (s : State)

theorem arbiter_of_run (run : s.power.device = .run) : s.arbiter = s.arbiterRun := by
  simp [arbiter, run]

/-- With an operation in progress the array is not free, and the arbiter in RUN chooses nothing (R77). -/
theorem arbiter_of_busy (run : s.power.device = .run) (busy : s.store.op ≠ none) : s.arbiter = s := by
  have hfree : s.arrayFree = false := by
    cases hop : s.store.op with
    | none => exact absurd hop busy
    | some op => simp [arrayFree, hop]
  rw [arbiter_of_run s run, arbiterRun, choices, arbitrateRun, hfree, if_neg Bool.false_ne_true]

theorem chooseRun_queue_nil (h : s.sched.queue = []) : s.chooseRun.sched.queue = [] := by
  unfold chooseRun takeHead
  split
  · rw [(engineStep_changes s).sched_eq, h]
  · split
    · rw [(jobStep_changes ..).sched_eq, h]
    · split
      · exact h
      · rw [h]
        exact (congrArg Scheduler.queue (compactIfReady_changes s).sched_eq).trans h

/-- The arbiter's choices add nothing to the commit queue: an empty one stays empty (R77). -/
theorem arbitrateRun_queue_nil (n : Nat) (h : s.sched.queue = []) : (arbitrateRun n s).sched.queue = [] := by
  induction n generalizing s with
  | zero => exact h
  | succ n ih =>
    unfold arbitrateRun
    split
    · exact ih _ (chooseRun_queue_nil s h)
    · exact h

end State

variable {s : State} {tag b : Byte} {rest : List Request}

/-- SET_TARIFF at the queue head is taken and executed (R163). -/
theorem exec_setTariff_atHead (h : AtHead s 0x10 tag [b] rest) :
    exec (.setTariff tag [b]) s = .next (s.popRequest.doSetTariff tag [b]) :=
  congrArg Host.Outcome.next (executeAs_popRequest (k := .setTariff) _ h rfl)

/-- SET_TARIFF above 3 is refused (R29). -/
theorem exec_setTariff_above (h : AtHead s 0x10 tag [b] rest) (hb : 3 < b.toNat) :
    exec (.setTariff tag [b]) s = .next (s.answered rest 0x10 tag .badArgument []) := by
  rw [exec_setTariff_atHead h]
  simp only [State.doSetTariff, field_zero_cons, Tariff.ofNat?_eq_none hb, State.refuse, popRequest_reply _ _ h]
  rfl

/-- SET_TARIFF of a tariff is refused under LINES (R29). -/
theorem exec_setTariff_lines (h : AtHead s 0x10 tag [b] rest) (hb : b.toNat ≤ 3)
    (hsource : s.config.live.globals.tariffSource = .lines) :
    exec (.setTariff tag [b]) s = .next (s.answered rest 0x10 tag .wrongSource []) := by
  obtain ⟨t, ht⟩ := Tariff.exists_ofNat?_eq_some hb
  rw [exec_setTariff_atHead h]
  simp only [State.doSetTariff, field_zero_cons, ht, popRequest_config, hsource, if_true, State.refuse,
    popRequest_reply _ _ h]
  rfl

/-- The switch SET_TARIFF makes leaves the part in RUN (R28). -/
theorem switched_run (h : AtHead s 0x10 tag [b] rest) (t : Tariff) :
    (s.popRequest.tariffSwitch t).power.device = .run := by
  rw [(State.tariffSwitch_changes s.popRequest t).power_eq]
  exact h.run

/-- The switch SET_TARIFF makes leaves the requests behind it in their queue (R28, R162). -/
theorem switched_requests (h : AtHead s 0x10 tag [b] rest) (t : Tariff) :
    (s.popRequest.tariffSwitch t).link.requests = rest := by
  rw [State.tariffSwitch_requests, popRequest_eq h]

/-- Under HOST the switch comes first, then its reply, and then the arbiter's choice (R28, R178). -/
theorem exec_setTariff_host {t : Tariff} (h : AtHead s 0x10 tag [b] rest) (hb : b.toNat = t.toNat)
    (hsource : s.config.live.globals.tariffSource = .host) :
    exec (.setTariff tag [b]) s =
      .next ((s.popRequest.tariffSwitch t).answered rest 0x10 tag .ok [b]).arbiter := by
  have hreply := reply_eq_answered (s.popRequest.tariffSwitch t) .setTariff tag (Answer.ok [b]) (switched_run h t)
  rw [switched_requests h t] at hreply
  rw [exec_setTariff_atHead h]
  simp only [State.doSetTariff, field_zero_cons, hb, Tariff.ofNat?_toNat, popRequest_config, hsource,
    reduceCtorEq, if_false]
  rw [← hb, leBytes_one_toNat, hreply]
  rfl

/-- Settles O54: the switch, its reply and the arbiter's choice in this order, of which the last two keep the new tariff
and the reply, and leave an EXHAUSTED store's empty queue empty. -/
theorem setTariffSwitchesUnderHost : Obligations.SetTariffSwitchesUnderHost := by
  unfold Obligations.SetTariffSwitchesUnderHost
  intro s tag rest b h
  dsimp only
  refine ⟨exec_setTariff_above h, exec_setTariff_lines h, fun t hb hsource => ?_⟩
  rw [← popRequest_eq h]
  have hout := exec_setTariff_host h hb hsource
  have hrun : ((s.popRequest.tariffSwitch t).answered rest 0x10 tag .ok [b]).power.device = .run := switched_run h t
  have hchosen := State.arbitrateRun_carries ((s.popRequest.tariffSwitch t).answered rest 0x10 tag .ok [b])
  refine ⟨hout, fun hbusy => ?busy, fun hactive => ?active, _, hout, ?tariff, ?replied, fun hexhausted hempty => ?queue⟩
  case busy =>
    rw [hout, State.arbiter_of_busy _ hrun]
    exact fun hidle => hbusy ((State.tariffSwitch_changes s.popRequest t).store_eq ▸ hidle)
  case active =>
    rw [hout, State.tariffSwitch_active s.popRequest hactive]
    rfl
  case tariff =>
    rw [State.arbiter_of_run _ hrun]
    exact (hchosen _).tariff.trans (State.tariffSwitch_tariff _ t)
  case replied =>
    rw [State.arbiter_of_run _ hrun]
    exact (hchosen _).replies List.mem_concat_self
  case queue =>
    have hresolved : QueueResolved s.popRequest := ⟨hexhausted, hempty⟩
    rw [State.arbiter_of_run _ hrun]
    exact State.arbitrateRun_queue_nil _ _ (hresolved.tariffSwitch t).empty

end Sys2Proof.Machine

end

section

-- One theorem at a time, as in the tests: many proofs elaborated at once each hold a thread's stack.
set_option Elab.async false

/-! What each command can change at all: the blocks, one arm for each command, and the array. -/

namespace Sys2Proof.Machine

open State Changes

/-- The blocks a command that neither writes a byte of the array nor concerns the supply or the RESET line can change. -/
def quietBlocks : List Block := .pins :: anyBlocks

/-- The blocks a command can change: never the queue of commands; the array only where an operation's end writes it or a tear
of one does; supply and RESET line only where the command is about them. -/
def commandBlocks : Instr → List Block
  | .powerOn _ | .resetLineActive | .supplyLoss => .supply :: .array :: quietBlocks
  | .resetRelease => .supply :: quietBlocks
  | .recordProgramEnd _ | .confirmProgramEnd _ | .epochProgramEnd _ | .retireProgramEnd _ | .countProgramEnd _
  | .imageProgramEnd _ | .eraseEnd _ | .configEraseEnd _ => .array :: quietBlocks
  | _ => quietBlocks

theorem pending_not_mem_commandBlocks (c : Instr) : Block.pending ∉ commandBlocks c := by
  unfold commandBlocks
  split <;> decide

theorem array_not_mem_commandBlocks {c : Instr} (h : ¬ writesArray c) : Block.array ∉ commandBlocks c := by
  unfold commandBlocks
  split
  case h_4 => decide
  case h_13 => decide
  all_goals exact absurd (by simp [writesArray, endsProgram, endsErase]) h

/-- The commands about the supply and the RESET line. -/
def isSupplyCommand : Instr → Bool
  | .powerOn _ | .resetLineActive | .supplyLoss | .resetRelease => true
  | _ => false

theorem supply_not_mem_commandBlocks {c : Instr} (h : isSupplyCommand c = false) : Block.supply ∉ commandBlocks c := by
  unfold commandBlocks
  split
  case h_4 => exact absurd h (by simp [isSupplyCommand])
  all_goals first | decide | exact absurd h (by simp [isSupplyCommand])

variable {bs cs : List Block} {s t : State}

/-- A happening that is due changes what its operation does, and one that is not changes nothing. -/
theorem Changes.due {p : Prop} [Decidable p] (h : Changes bs s t) (hs : bs ⊆ cs := by decide) :
    Changes cs s (if p then t else s) :=
  .ite (h.mono hs) (.refl _ _)

/-- An operation that ends in the arbiter's choice. -/
theorem Changes.thenArbiter (h : Changes bs s t) (hs : bs ⊆ cs := by decide) (ha : anyBlocks ⊆ cs := by decide) :
    Changes cs s t.arbiter :=
  (arbiter_changes t).after ha (h.mono hs)

theorem State.atEnd_changes {x : Task} {f : Operation → State} (h : ∀ op, Changes bs s (f op)) :
    Changes bs s (s.atEnd x f) := by
  unfold State.atEnd
  split
  · exact .ite (h _) (.refl _ _)
  · exact .refl _ _

theorem State.atEraseEnd_changes {x : Task} {o : EraseOutcome} {f : Operation → State} (h : ∀ op, Changes bs s (f op)) :
    Changes bs s (s.atEraseEnd x o f) :=
  atEnd_changes fun op => .ite (h op) (.refl _ _)

/-- A program's end, its owner's part and the arbiter's choice. -/
theorem State.programEnd_changes {x : Task} {o : ProgramOutcome} {f : State → Operation → State}
    (h : ∀ s op, Changes bs s (f s op)) (hs : bs ⊆ .array :: quietBlocks := by decide) :
    Changes (.array :: quietBlocks) s (s.atEnd x fun op => (f (s.endProgram op o) op).arbiter) :=
  atEnd_changes fun op =>
    ((h _ op).after hs ((endProgram_changes s op o).mono (by decide))).thenArbiter (List.Subset.refl _)

/-- An erase's end, its owner's part and the arbiter's choice. -/
theorem State.eraseEnd_chooses_changes {x : Task} {o : EraseOutcome} {f : State → Operation → State}
    (h : ∀ s op, Changes bs s (f s op)) (hs : bs ⊆ .array :: quietBlocks := by decide) :
    Changes (.array :: quietBlocks) s (s.atEraseEnd x o fun op => (f (s.endErase op o) op).arbiter) :=
  atEraseEnd_changes fun op =>
    ((h _ op).after hs ((endErase_changes s op o).mono (by decide))).thenArbiter (List.Subset.refl _)

/-- A read's end, its owner's part and the arbiter's choice. -/
theorem State.readEnd_changes {x : Task} {f : State → Operation → State}
    (h : ∀ s op, Changes bs s (f s op)) (hs : bs ⊆ quietBlocks := by decide) :
    Changes quietBlocks s (s.atEnd x fun op => (f (s.setOp none) op).arbiter) :=
  atEnd_changes fun op => ((h _ op).after hs ((setOp_changes s none).mono (by decide))).thenArbiter (List.Subset.refl _)

/-- A request's execution at the head of the queue. -/
theorem State.execution_changes {f : State → State} {k : RequestKind} {tag : Byte} {p : List Byte}
    (h : ∀ s, Changes bs s (f s)) (hs : .link :: bs ⊆ quietBlocks := by decide) :
    Changes quietBlocks s (s.executeAs k tag p f) :=
  (executeAs_changes s k tag p (fun x => (h x).mono (List.subset_cons_self ..))
    (List.cons_subset.2 ⟨List.mem_cons_self .., List.nil_subset _⟩)).mono hs

/-- Every command is answered with a next state, which differs in the command's blocks at most. -/
theorem exec_changes (c : Instr) (s : State) : ∃ t, exec c s = .next t ∧ Changes (commandBlocks c) s t := by
  cases c with
  | powerOn p => exact ⟨_, rfl, (powerUp_changes s p).mono (cs := .supply :: .array :: quietBlocks) (by decide)⟩
  | resetLineActive =>
    by_cases hr : s.supply.resetLine
    · exact ⟨s, by simp [exec, execResetLineActive, hr], .refl _ _⟩
    · refine ⟨_, by simp only [exec, execResetLineActive, hr]; rfl, .ite ?_ ((setSupply_changes ..).mono (by decide))⟩
      exact (startEntry_changes ..).after (by decide)
        ((tear_changes ..).after (by decide) ((setSupply_changes ..).mono (by decide)))
  | resetRelease =>
    by_cases hr : s.supply.resetLine
    · refine ⟨_, by simp only [exec, execResetRelease, hr]; rfl, .ite ?_ ((setSupply_changes ..).mono (by decide))⟩
      exact (beginPhases_changes ..).after (by decide) ((takeLines_changes ..).after (by decide) ((setSupply_changes ..).mono (by decide)))
    · exact ⟨s, by simp [exec, execResetRelease, hr], .refl _ _⟩
  | supplyLoss => exact ⟨_, rfl, (loseSupply_changes s).due⟩
  | tick => exact ⟨_, rfl, ((tickEffects_changes s).thenArbiter (cs := anyBlocks) (List.Subset.refl _)).due⟩
  | secondEvent => exact ⟨_, rfl, ((takeSecond_changes s).thenArbiter (cs := anyBlocks)).due⟩
  | intervalTimerExpiry => exact ⟨_, rfl, ((takeSecond_changes s).thenArbiter (cs := anyBlocks)).due⟩
  | idleTimerExpiry => exact ⟨_, rfl, ((takeSecond_changes s).thenArbiter (cs := anyBlocks)).due⟩
  | tselFilteredChange => exact ⟨_, rfl, ((tselChange_changes s).thenArbiter (cs := anyBlocks)).due⟩
  | synchronisedLevelChange p l => exact ⟨_, rfl, (syncPin_changes s p l).due (cs := quietBlocks)⟩
  | filteredLevelChange c => exact ⟨_, rfl, (changeFiltered_changes s c).due (cs := quietBlocks)⟩
  | svcFilteredChange => exact ⟨_, rfl, (svcChange_changes s).due⟩
  | pfailActive => exact ⟨_, rfl, (pfailRises_changes s).due⟩
  | pfailInactive => exact ⟨_, rfl, (pfailFalls_changes s).due⟩
  | resumeTimerExpiry => exact ⟨_, rfl, (resumeExpiry_changes s).due⟩
  | gapTimerExpiry => exact ⟨_, rfl, (gapExpiry_changes s).due⟩
  | characterReceived b e => exact ⟨_, rfl, (takeCharacter_changes s b e).due (cs := quietBlocks)⟩
  | replySent => exact ⟨_, rfl, (sendReply_changes s).mono (by decide)⟩
  | requestFrame last =>
    refine ⟨_, rfl, ?_⟩
    split
    · exact (completeFrame_changes ..).mono (cs := quietBlocks) (by decide)
    · exact .refl _ _
  | scanReadEnd =>
    exact ⟨_, rfl, atEnd_changes fun op =>
      (scanReadEnd_changes ..).after (by decide) ((setOp_changes s none).mono (by decide))⟩
  | recordProgramEnd o => exact ⟨_, rfl, programEnd_changes fun s _ => recordEnd_changes s o⟩
  | confirmProgramEnd o => exact ⟨_, rfl, programEnd_changes fun s _ => confirmEnd_changes s o⟩
  | epochProgramEnd o => exact ⟨_, rfl, programEnd_changes fun s op => epochEnd_changes s op.sector o⟩
  | retireProgramEnd o => exact ⟨_, rfl, programEnd_changes fun s op => retireEnd_changes s op.sector⟩
  | countProgramEnd o => exact ⟨_, rfl, programEnd_changes fun s _ => countEnd_changes s o⟩
  | imageProgramEnd o => exact ⟨_, rfl, programEnd_changes fun s _ => imageProgramEnd_changes s o⟩
  | eraseEnd o => exact ⟨_, rfl, eraseEnd_chooses_changes fun s _ => eraseEnd_changes s o⟩
  | configEraseEnd o => exact ⟨_, rfl, eraseEnd_chooses_changes fun s _ => configEraseEnd_changes s o⟩
  | copyReadEnd => exact ⟨_, rfl, readEnd_changes fun x op => copyReadEnd_changes x (s.slotBytes op.sector op.slot)⟩
  | slotReadEnd => exact ⟨_, rfl, readEnd_changes fun x op => slotReadEnd_changes x (s.slotBytes op.sector op.slot)⟩
  | unknownKind k tag p => exact ⟨_, rfl, (executeUnknown_changes s k tag).due (cs := quietBlocks)⟩
  | ping tag p => exact ⟨_, rfl, execution_changes fun x => doPing_changes x tag⟩
  | getStatus tag p => exact ⟨_, rfl, execution_changes fun x => doGetStatus_changes x tag⟩
  | readChannel tag p => exact ⟨_, rfl, execution_changes fun x => doReadChannel_changes x tag p⟩
  | readCommitted tag p => exact ⟨_, rfl, execution_changes fun x => doReadCommitted_changes x tag p⟩
  | getStoreMap tag p => exact ⟨_, rfl, execution_changes fun x => doGetStoreMap_changes x tag p⟩
  | readSlot tag p => exact ⟨_, rfl, execution_changes fun x => doReadSlot_changes x tag p⟩
  | setTariff tag p => exact ⟨_, rfl, execution_changes fun x => doSetTariff_changes x tag p⟩
  | commit tag p => exact ⟨_, rfl, execution_changes fun x => doCommit_changes x tag p⟩
  | fetchNotice tag p => exact ⟨_, rfl, execution_changes fun x => doFetchNotice_changes x tag p⟩
  | ackNotice tag p => exact ⟨_, rfl, execution_changes fun x => doAckNotice_changes x tag⟩
  | setNoticeMask tag p => exact ⟨_, rfl, execution_changes fun x => doSetNoticeMask_changes x tag p⟩
  | openService tag p => exact ⟨_, rfl, execution_changes fun x => doOpenService_changes x tag⟩
  | closeService tag p => exact ⟨_, rfl, execution_changes fun x => doCloseService_changes x tag⟩
  | stageChannel tag p => exact ⟨_, rfl, execution_changes fun x => doStageChannel_changes x tag p⟩
  | stageGlobals tag p => exact ⟨_, rfl, execution_changes fun x => doStageGlobals_changes x tag p⟩
  | readConfig tag p => exact ⟨_, rfl, execution_changes fun x => doReadConfig_changes x tag p⟩
  | applyConfig tag p => exact ⟨_, rfl, execution_changes fun x => doApplyConfig_changes x tag⟩
  | discardStaged tag p => exact ⟨_, rfl, execution_changes fun x => doDiscardStaged_changes x tag⟩
  | loadTotals tag p => exact ⟨_, rfl, execution_changes fun x => doLoadTotals_changes x tag p⟩
  | restart tag p => exact ⟨_, rfl, execution_changes fun x => doRestart_changes x tag⟩

theorem exec_changes_of_next {c : Instr} (h : exec c s = .next t) : Changes (commandBlocks c) s t := by
  obtain ⟨u, hu, hc⟩ := exec_changes c s
  rw [hu] at h
  exact Host.Outcome.next.inj h ▸ hc

/-- Settles O2: the queue of commands is in no command's blocks. -/
theorem everyCommandCompletesAndKeepsTheQueue : Obligations.EveryCommandCompletesAndKeepsTheQueue := by
  unfold Obligations.EveryCommandCompletesAndKeepsTheQueue
  intro c s
  obtain ⟨t, ht, hc⟩ := exec_changes c s
  exact ⟨t, ht, hc.pending_eq (pending_not_mem_commandBlocks c)⟩

/-- Settles O12: the array is only in the blocks of the commands that write it. -/
theorem arrayChangesOnlyAtWritingEndsAndTears : Obligations.ArrayChangesOnlyAtWritingEndsAndTears := by
  unfold Obligations.ArrayChangesOnlyAtWritingEndsAndTears
  intro c s t h hc
  exact (exec_changes_of_next h).array_eq (array_not_mem_commandBlocks hc)

/-- Settles O1. -/
theorem stepRunsTheFrontCommand : Obligations.StepRunsTheFrontCommand := by
  unfold Obligations.StepRunsTheFrontCommand
  intro c rest s
  exact ⟨rfl, rfl⟩

end Sys2Proof.Machine
end

section

-- One theorem at a time, as in the tests: many proofs elaborated at once each hold a thread's stack.
set_option Elab.async false

/-! The array (R57, R59, R60, R61): an operation's end writes its own bytes, its owner and the arbiter write none, and every
command keeps the array's canonical form. -/

namespace Sys2Proof.Machine

open State

variable {s t : State} {c : Instr} {x : Task}

/-- Two states with the same array. -/
def SameArray (s t : State) : Prop := t.array = s.array

theorem SameArray.of_changes {bs : List Block} (h : Changes bs s t) (hb : Block.array ∉ bs := by decide) : SameArray s t :=
  h.array_eq hb

theorem SameArray.arbiter (h : SameArray s t) : SameArray s t.arbiter :=
  (SameArray.of_changes (arbiter_changes t)).trans h

/-- The command that ends a program lets the program's bytes be written, and then its owner and the arbiter act, who write
none. -/
theorem exec_endsProgram {o : ProgramOutcome} (h : endsProgram c = some (x, o)) :
    ∃ f : State → Operation → State, (∀ s op, SameArray s (f s op)) ∧
      ∀ s, exec c s = .next (s.atEnd x fun op => f (s.endProgram op o) op) := by
  cases c with
  | recordProgramEnd o' =>
    cases h; exact ⟨_, fun s _ => (SameArray.of_changes (recordEnd_changes s o)).arbiter, fun _ => rfl⟩
  | confirmProgramEnd o' =>
    cases h; exact ⟨_, fun s _ => (SameArray.of_changes (confirmEnd_changes s o)).arbiter, fun _ => rfl⟩
  | epochProgramEnd o' =>
    cases h; exact ⟨_, fun s op => (SameArray.of_changes (epochEnd_changes s op.sector o)).arbiter, fun _ => rfl⟩
  | retireProgramEnd o' =>
    cases h; exact ⟨_, fun s op => (SameArray.of_changes (retireEnd_changes s op.sector)).arbiter, fun _ => rfl⟩
  | countProgramEnd o' =>
    cases h; exact ⟨_, fun s _ => (SameArray.of_changes (countEnd_changes s o)).arbiter, fun _ => rfl⟩
  | imageProgramEnd o' =>
    cases h; exact ⟨_, fun s _ => (SameArray.of_changes (imageProgramEnd_changes s o)).arbiter, fun _ => rfl⟩
  | _ => simp [endsProgram] at h

/-- The command that ends an erase lets the sector be written, and then its owner and the arbiter act, who write none. -/
theorem exec_endsErase {o : EraseOutcome} (h : endsErase c = some (x, o)) :
    ∃ f : State → State, (∀ s, SameArray s (f s)) ∧
      ∀ s, exec c s = .next (s.atEraseEnd x o fun op => f (s.endErase op o)) := by
  cases c with
  | eraseEnd o' =>
    cases h; exact ⟨_, fun s => (SameArray.of_changes (eraseEnd_changes s o)).arbiter, fun _ => rfl⟩
  | configEraseEnd o' =>
    cases h; exact ⟨_, fun s => (SameArray.of_changes (configEraseEnd_changes s o)).arbiter, fun _ => rfl⟩
  | _ => simp [endsErase] at h

/-- At the end of the program in progress the array is what the program leaves. -/
theorem array_of_endsProgram {o : ProgramOutcome} {op : Operation} (h : endsProgram c = some (op.task, o))
    (hop : s.store.op = some op) (hexec : exec c s = .next t) : t.array = (s.endProgram op o).array := by
  obtain ⟨f, hf, he⟩ := exec_endsProgram h
  rw [he] at hexec
  cases hexec
  simp only [atEnd, hop, if_true]
  exact hf (s.endProgram op o) op

/-- At the end of the erase in progress the array is what the erase leaves. -/
theorem array_of_endsErase {o : EraseOutcome} {op : Operation} (h : endsErase c = some (op.task, o))
    (hop : s.store.op = some op) (hagrees : (o == .aborted) = op.aborting) (hexec : exec c s = .next t) :
    t.array = (s.endErase op o).array := by
  obtain ⟨f, hf, he⟩ := exec_endsErase h
  rw [he] at hexec
  cases hexec
  simp only [atEraseEnd, atEnd, hop, hagrees, if_true]
  exact hf (s.endErase op o)

/-- An end whose ABORTED does not agree with FLUSH entry's abort changes nothing (log 4: DESIGN CHOICE). -/
theorem eq_of_endsErase_disagrees {o : EraseOutcome} {op : Operation} (h : endsErase c = some (op.task, o))
    (hop : s.store.op = some op) (hdisagrees : (o == .aborted) ≠ op.aborting) (hexec : exec c s = .next t) : t = s := by
  obtain ⟨f, -, he⟩ := exec_endsErase h
  rw [he] at hexec
  cases hexec
  simp only [atEraseEnd, atEnd, hop, hdisagrees, if_true, if_false]

/-! ## The canonical form -/

theorem startEntry_array (s : State) (k : StartCause) : (s.startEntry k).array = s.array :=
  (startEntry_changes s k).array_eq

theorem ArrayLaw.of_array (h : ArrayLaw s) (ht : t.array = s.array) : ArrayLaw t := by
  unfold ArrayLaw at h ⊢
  rw [ht]
  exact h

theorem loseSupply_array (s : State) : s.loseSupply.array = s.tear.array := by
  simp [loseSupply, startEntry_array]

theorem powerUp_array (s : State) (p : PinLevels) : (s.powerUp p).array = s.tear.array := by
  have hlow : ∀ x, ((s.loseSupply.samplePins p).setSupply x).array = s.tear.array := fun x => by
    rw [setSupply_array, (samplePins_changes _ p).array_eq, loseSupply_array]
  unfold powerUp
  dsimp only
  split
  · rw [startEntry_array, hlow]
  · rw [(beginPhases_changes _).array_eq, startEntry_array, hlow]

theorem atEnd_wf {f : Operation → State} (h : Memory.wf s.array) (hf : ∀ op, Memory.wf (f op).array) :
    Memory.wf (s.atEnd x f).array := by
  unfold atEnd
  split
  · split
    · exact hf _
    · exact h
  · exact h

/-- Every command keeps the array's canonical form. -/
theorem exec_keeps_arrayLaw (h : ArrayLaw s) (hexec : exec c s = .next t) : ArrayLaw t := by
  by_cases hc : writesArray c
  case neg => exact h.of_array ((exec_changes_of_next hexec).array_eq (array_not_mem_commandBlocks hc))
  obtain hprogram | herase | rfl | rfl | ⟨p, rfl⟩ := hc
  · obtain ⟨⟨x, o⟩, hx⟩ := Option.isSome_iff_exists.1 hprogram
    obtain ⟨f, hf, he⟩ := exec_endsProgram hx
    rw [he] at hexec
    cases hexec
    exact atEnd_wf h fun op => (hf (s.endProgram op o) op).symm ▸ endProgram_wf h op o
  · obtain ⟨⟨x, o⟩, hx⟩ := Option.isSome_iff_exists.1 herase
    obtain ⟨f, hf, he⟩ := exec_endsErase hx
    rw [he] at hexec
    cases hexec
    refine atEnd_wf h fun op => ?_
    split
    · exact (hf (s.endErase op o)).symm ▸ endErase_wf h op o
    · exact h
  · unfold exec execResetLineActive at hexec
    dsimp only at hexec
    split at hexec
    · cases hexec; exact h
    · cases hexec
      split
      · exact (ArrayLaw.of_array (s := (s.setSupply { s.supply with resetLine := true }).tear) (tear_wf h)
          (startEntry_array ..))
      · exact h
  · cases hexec
    split
    · exact ArrayLaw.of_array (s := s.tear) (tear_wf h) (loseSupply_array s)
    · exact h
  · cases hexec
    exact ArrayLaw.of_array (s := s.tear) (tear_wf h) (powerUp_array s p)

/-- A step that runs a command runs it in a state with the same blocks; on an empty queue it changes nothing. -/
theorem step_cases (h : step s = .next t) : t = s ∨ ∃ c rest, exec c (s.setPending rest) = .next t := by
  unfold step at h
  split at h
  · exact .inl (Host.Outcome.next.inj h).symm
  · exact .inr ⟨_, _, h⟩

/-- Settles O3: only operations that keep the form write the array. -/
theorem stepKeepsTheArrayForm : Obligations.StepKeepsTheArrayForm := by
  unfold Obligations.StepKeepsTheArrayForm
  intro s t h hstep
  obtain rfl | ⟨c, rest, hexec⟩ := step_cases hstep
  · exact h
  · exact exec_keeps_arrayLaw (s := s.setPending rest) h hexec

/-! ## What an end writes -/

theorem OnlyClears.of_inside {m m' : Memory} {a n : Nat}
    (houtside : ∀ x, x < a ∨ a + n ≤ x → Memory.read m' x = Memory.read m x)
    (hinside : ∀ i, i < n → ∃ b, Memory.read m' (a + i) = Memory.read m (a + i) &&& b) : OnlyClears m m' := by
  intro x
  by_cases hx : x < a ∨ a + n ≤ x
  · rw [houtside x hx, BitVec.and_self]
  · obtain ⟨b, hb⟩ := hinside (x - a) (by omega)
    rw [show a + (x - a) = x by omega] at hb
    rw [hb, BitVec.and_assoc, BitVec.and_comm b, ← BitVec.and_assoc, BitVec.and_self]

theorem not_covers_iff {op : Operation} {a : Nat} :
    ¬ op.covers a ↔ a < op.address ∨ op.address + op.bytes.length ≤ a := by
  unfold Operation.covers
  omega

theorem read_endProgram_outside (s : State) (op : Operation) (o : ProgramOutcome) {a : Nat} (ha : ¬ op.covers a) :
    Memory.read (s.endProgram op o).array a = Memory.read s.array a := by
  cases o with
  | pass => exact Memory.read_program_outside _ _ _ (not_covers_iff.1 ha)
  | fail => exact Memory.read_programFailed_outside _ _ _ _ (not_covers_iff.1 ha)

theorem endProgram_onlyClears (h : Memory.wf s.array) (op : Operation) (o : ProgramOutcome) :
    OnlyClears s.array (s.endProgram op o).array := by
  refine .of_inside (a := op.address) (n := op.bytes.length)
    (fun x hx => read_endProgram_outside s op o (not_covers_iff.2 hx)) fun i hi => ?_
  cases o with
  | pass => exact ⟨_, Memory.read_program_inside h op.address op.bytes hi⟩
  | fail => exact ⟨_, Memory.read_programFailed_inside h op.address op.bytes.length s.free hi⟩

theorem slotAddress_zero (k : Sector) : slotAddress k 0 = k.toNat * 1024 := by simp [slotAddress, sectorSize]

theorem not_sector_covers_iff {k : Sector} {a : Nat} :
    ¬ k.covers a ↔ a < slotAddress k 0 ∨ slotAddress k 0 + sectorSize ≤ a := by
  rw [slotAddress_zero]
  unfold Sector.covers sectorSize
  omega

/-- What unknown bytes stand for in a whole sector fills the sector and no more. -/
theorem read_scramble_outside (s : State) (k : Sector) {f : List Byte → List Byte}
    (hf : ∀ bs : List Byte, 10 ≤ bs.length → (f bs).length = bs.length) {a : Nat} (ha : ¬ k.covers a) :
    Memory.read (s.scramble k f).array a = Memory.read s.array a := by
  refine Memory.read_store_outside _ _ _ ?_
  rw [hf _ (by simp [sectorSize]), freeBytes_length]
  exact not_sector_covers_iff.1 ha

theorem read_endErase_outside (s : State) (op : Operation) (o : EraseOutcome) {a : Nat} (ha : ¬ op.sector.covers a) :
    Memory.read (s.endErase op o).array a = Memory.read s.array a := by
  cases o with
  | pass =>
    have hread := Memory.read_erase s.array (slotAddress op.sector 0) sectorSize a
    rw [if_neg (by have := not_sector_covers_iff.1 ha; omega)] at hread
    exact hread
  | fail =>
    unfold endErase
    rw [(setOp_changes _ none).array_eq]
    exact read_scramble_outside s op.sector (fun _ _ => rfl) ha
  | aborted =>
    unfold endErase
    rw [(setOp_changes _ none).array_eq]
    exact read_scramble_outside s op.sector (fun _ h => abortedErase_length _ h) ha

theorem read_endErase_pass (s : State) (op : Operation) {a : Nat} (ha : op.sector.covers a) :
    Memory.read (s.endErase op .pass).array a = 0xFF := by
  have hread := Memory.read_erase s.array (slotAddress op.sector 0) sectorSize a
  rw [if_pos (by by_contra hout; exact absurd ha (not_sector_covers_iff.2 (by omega)))] at hread
  exact hread

/-- Settles O13: the operation's own rules, at the end of a program and at the end of an erase. -/
theorem programAndEraseEndsActOnTheirOwnBytes : Obligations.ProgramAndEraseEndsActOnTheirOwnBytes := by
  unfold Obligations.ProgramAndEraseEndsActOnTheirOwnBytes
  refine ⟨fun c s t op o hwf hop hc hexec => ?program, fun c s t op o hop hc hexec => ⟨fun hagrees => ?erase, fun h => ?none⟩⟩
  case program =>
    rw [array_of_endsProgram hc hop hexec]
    refine ⟨fun a ha => read_endProgram_outside s op o ha, endProgram_onlyClears hwf op o, ?_⟩
    rintro rfl i hi
    have hread : Memory.read (s.endProgram op .pass).array (op.address + i) =
        Memory.read s.array (op.address + i) &&& op.bytes[i] := Memory.read_program_inside hwf op.address op.bytes hi
    refine ⟨hread, fun hff => ?_⟩
    rw [hread, hff]
    exact BitVec.allOnes_and (x := op.bytes[i])
  case erase =>
    have habort : (o == .aborted) = op.aborting := by
      rw [Bool.eq_iff_iff, beq_iff_eq]
      exact hagrees
    rw [array_of_endsErase hc hop habort hexec]
    refine ⟨fun a ha => read_endErase_outside s op o ha, ?_⟩
    rintro rfl a ha
    exact read_endErase_pass s op ha
  case none =>
    refine eq_of_endsErase_disagrees hc hop (fun habort => h ?_) hexec
    rw [← habort, beq_iff_eq]

end Sys2Proof.Machine
end

section

-- One theorem at a time, as in the tests: many proofs elaborated at once each hold a thread's stack.
set_option Elab.async false

/-! What every happening is made of: the single moves of the state, each with what it asks of the state it starts from. A law
that every move keeps is kept by every command. -/

namespace Sys2Proof.Machine

open State

/-- What a happening may do beside what is always allowed. The laws differ in what they can allow. -/
inductive Licence where
  /-- The device state and the capture state change by themselves, not together with what they confine. -/
  | loose
  /-- A cause reaches the commit queue in another device state than RUN. -/
  | offRun
  /-- START's reads, an idle session's lines and the resume timer's expiry are met in other states than those they belong to. -/
  | offStart
  /-- START completes. -/
  | launch
  /-- START is entered. -/
  | start
  /-- Another configuration becomes live. -/
  | live
  /-- A live configuration stands without the staged one of a CLOSED session following it yet. -/
  | unstaged
  /-- A credit stands for a request that has left its queue and has no reply or job yet. -/
  | owed
  | fetch
  | ack
  | mask
  /-- Erase counts change. -/
  | counts
deriving DecidableEq

/-- A move of the notice unit. -/
inductive NoticeMove (L : Licence → Prop) (s t : State) : Prop where
  | raise (k : NoticeKind) (d : NoticeDetail) (h : t = s.raise k d)
  | fetch (hl : L .fetch) (k : NoticeKind) (h : t = s.takeNotice k)
  | ack (hl : L .ack) (h : t = s.setNotices { s.notices with armed := true })
  | mask (hl : L .mask) (m : NoticeSet) (hm : m.getLsbD 0 = false) (h : t = s.setNotices { s.notices with mask := m })

/-- A move of the host link: a credit in use stands for a request, a job or a reply after it as before, unless one is owed. -/
inductive LinkMove (L : Licence → Prop) (s t : State) : Prop where
  /-- The line rate, the receiver and the gap timer. -/
  | line (h : Changes [.link] s t)
    (hlink : ∃ rate receiver gap, t.link = { s.link with lineRate := rate, receiver := receiver, gap := gap })
  | discarded (h : t = s.setLink { s.link with discarded := min Config.maxCount16 (s.link.discarded + 1) })
  | admitted (x : Request)
    (h : t = s.setLink { s.link with requests := s.link.requests ++ [x], credits := s.link.credits + 1 })
    (hroom : s.link.requests.length < 4 ∧ s.link.credits < 6) (hrun : s.power.device = .run)
  | transmits (h : t = s.startTransmitter)
  | sent (r : Reply) (rest : List Reply) (hreplies : s.link.replies = r :: rest)
    (h : t = s.setLink { s.link with replies := rest, transmitting := false, credits := s.link.credits - 1 })
  | jobState (w : JobSlot) (j : JobState) (h : t = s.setJobState w j)
  | endJob (w : JobSlot) (a : Answer) (h : t = s.endJob w a)
  | cancel (h : t = s.cancelAll)
  | pop (hl : L .owed) (h : t = s.popRequest)
  | reply (hl : L .owed) (r : Reply) (h : t = s.enqueueReply r)
  | accept (hl : L .owed) (w : JobSlot) (tag : Byte) (j : JobState) (h : t = s.acceptJob w tag j)
    (hrun : s.power.device = .run)

theorem NoticeMove.changes {L : Licence → Prop} {s t : State} (h : NoticeMove L s t) : Changes [.notices] s t := by
  cases h with
  | raise k d h => exact h ▸ raise_changes s k d
  | fetch _ k h => exact h ▸ takeNotice_changes s k
  | ack _ h => exact h ▸ setNotices_changes s _
  | mask _ m _ h => exact h ▸ setNotices_changes s _

theorem LinkMove.changes {L : Licence → Prop} {s t : State} (h : LinkMove L s t) : Changes [.link] s t := by
  cases h with
  | line h _ => exact h
  | discarded h => exact h ▸ setLink_changes s _
  | admitted x h _ _ => exact h ▸ setLink_changes s _
  | transmits h => exact h ▸ startTransmitter_changes s
  | sent r rest _ h => exact h ▸ setLink_changes s _
  | jobState w j h => exact h ▸ setJobState_changes s w j
  | endJob w a h => exact h ▸ endJob_changes s w a
  | cancel h => exact h ▸ cancelAll_changes s
  | pop _ h => exact h ▸ popRequest_changes s
  | reply _ r h => exact h ▸ enqueueReply_changes s r
  | accept _ w tag j h _ => exact h ▸ acceptJob_changes s w tag j

/-- One move from `s` to `t`, by what it changes and what it asks. -/
inductive Move (L : Licence → Prop) (s t : State) : Prop where
  /-- Blocks that no law is about. -/
  | rest (h : Changes [.supply, .pins, .timebase, .engine, .array, .scan, .free] s t)
  /-- Counts rise on a LIVE unit only; a lost-edge count may be taken from the commit map. -/
  | capture (h : Changes [.capture] s t) (hstate : t.capture.state = s.capture.state)
    (hpending : ∀ c, (t.capture.channels.get c).pending ≤ (s.capture.channels.get c).pending ∨
      s.capture.state = .live ∧ (t.capture.channels.get c).pending ≤ 255)
    (hlost : ∀ c, (t.capture.channels.get c).lost ≤ (s.capture.channels.get c).lost ∨
      (t.capture.channels.get c).lost ≤ 65535 ∨ (t.capture.channels.get c).lost = (s.store.map.get c).lost)
  | accum (h : Changes [.accum] s t)
    (hdelta : ∀ c, (t.accum.accounts.get c).delta ≤ (s.accum.accounts.get c).delta ∨
      (t.accum.accounts.get c).delta ≤ 2 ^ 48 - 1)
  | sched (h : Changes [.sched] s t) (hqueue : t.sched.queue.Sublist s.sched.queue)
  | deliver (h : Changes [.sched] s t) (c : Channel) (k : Cause) (w : Option JobSlot)
    (hqueue : t.sched.queue = mergeCause s.sched.queue c k w) (hcause : k ≠ .flush ∧ k ≠ .compact)
    (hrun : s.power.device = .run ∨ L .offRun)
  /-- A commit's snapshot stands in the capture unit or in the job before; the map takes the lost-edge count of a snapshot;
  START's reads belong to START. -/
  | store (h : Changes [.store] s t)
    (hop : ∀ op, t.store.op = some op → op.task = .scanRead →
      s.store.op = some op ∨ s.power.device = .start ∨ L .offStart)
    (hjob : ∀ j, t.commitJob = some j → j.snapshot.lost ≤ (s.capture.channels.get j.channel).lost ∨
      ∃ i, s.commitJob = some i ∧ j.snapshot = i.snapshot)
    (hmap : ∀ c, (t.store.map.get c).lost ≤ (s.store.map.get c).lost ∨ (t.store.map.get c).lost ≤ 65535 ∨
      ∃ i, s.commitJob = some i ∧ (t.store.map.get c).lost = i.snapshot.lost)
    (hcounts : (∀ r, (t.store.table.get r).eraseCount = (s.store.table.get r).eraseCount) ∨ L .counts)
  | config (h : Changes [.config] s t)
    (hlive : t.config.live = s.config.live ∧ t.config.generation = s.config.generation ∧
      t.config.liveSector = s.config.liveSector ∨ L .live)
    (hstaged : t.config.staged = t.config.live ∨ s.service.session ≠ .closed ∨ L .unstaged)
  | service (h : Changes [.service] s t) (hsession : t.service.session = .closed ↔ s.service.session = .closed)
    (hsvc : t.service.svcFiltered = s.service.svcFiltered ∨ t.service.session = .closed ∨ t.service.svcFiltered = true ∨
      L .offStart)
  | closes (h : Changes [.service, .config] s t) (hsession : t.service.session = .closed)
    (hconfig : t.config = { s.config with staged := s.config.live })
  | opens (h : Changes [.service, .config] s t) (hservice : t.service = { s.service with session := .opened 0 })
    (hconfig : t.config = { s.config with staged := s.config.live }) (hrun : s.power.device = .run)
    (hsvc : s.service.svcFiltered = true)
  | notice (h : NoticeMove L s t)
  | link (h : LinkMove L s t)
  /-- The power monitor's items within one device state. -/
  | power (h : Changes [.power] s t) (hdevice : t.power.device = s.power.device)
    (hwait : t.power.replyWait = s.power.replyWait ∨ s.power.device = .flush ∧ s.power.restartOwed = true)
    (howed : s.power.restartOwed = true → t.power.restartOwed = true)
    (hresume : t.power.resume.isSome = s.power.resume.isSome ∧
        (t.power.pfailFiltered = s.power.pfailFiltered ∨ s.power.device ≠ .retain ∨ L .offStart) ∨
      (t.power.resume.isSome = true ↔ s.power.device = .retain ∧ t.power.pfailFiltered = false))
    (hpfail : t.power.pfailFiltered = s.power.pfailFiltered ∨ t.power.pfailFiltered = false ∨ s.power.device ≠ .run ∨
      L .offStart)
  /-- The return to RUN (R126). -/
  | toRun (h : t = (s.setPower { s.power with device := .run, resume := none }).captureLive)
    (hdevice : s.power.device ≠ .start) (howed : s.power.restartOwed = false)
    (hpfail : s.power.pfailFiltered = false ∨ L .offStart)
  /-- The entry into RUN from START (R144, R145). -/
  | launch (hl : L .launch) (h : t = (s.setPower { s.power with device := .run }).captureLive)
    (hpfail : s.power.pfailFiltered = false ∨ L .loose)
    (hstart : s.power.device = .start ∧ s.store.op = none ∨ L .offStart)
  /-- FLUSH entry from RUN, or from a START that completes with PFAIL active (R120, R122). -/
  | flush (hl : ¬ L .loose) (u : State) (hu : Changes [.power, .capture, .notices, .scan] s u) (h : t = u.enterFlush)
    (hnotices : u.notices.armed = s.notices.armed ∧ u.notices.mask = s.notices.mask)
    (hfrom : s.power.device = .run ∨ L .launch ∧ (s.store.op = none ∨ L .offStart))
  | retain (h : Changes [.power] s t) (hpower : t.power = { s.power with device := .retain })
    (hdevice : s.power.device = .flush) (hpfail : s.power.pfailFiltered = true) (hwait : s.power.replyWait = false)
  /-- The entry into START (R132). -/
  | start (hl : L .start) (k : StartCause) (h : t = s.startEntry k)
  | freeze (hl : L .loose) (h : Changes [.capture] s t) (hchannels : t.capture.channels = s.capture.channels)
  | device (hl : L .loose) (h : Changes [.power] s t)

/-- Moves one after another. -/
def Moves (L : Licence → Prop) : State → State → Prop := Relation.ReflTransGen (Move L)

namespace Moves

variable {L : Licence → Prop} {s t u : State} {bs : List Block}

theorem refl (s : State) : Moves L s s := Relation.ReflTransGen.refl

theorem one (h : Move L s t) : Moves L s t := .single h

theorem trans (h : Moves L s t) (h' : Moves L t u) : Moves L s u := Relation.ReflTransGen.trans h h'

/-- An operation's moves run after others. -/
theorem after (h' : Moves L t u) (h : Moves L s t) : Moves L s u := h.trans h'

theorem ite {p : Prop} [Decidable p] (h : p → Moves L s t) (h' : ¬ p → Moves L s u) : Moves L s (if p then t else u) := by
  split
  · exact h ‹_›
  · exact h' ‹_›

theorem foldl {α : Type} {f : State → α → State} (hf : ∀ x a, Moves L x (f x a)) :
    ∀ (l : List α) (s : State), Moves L s (l.foldl f s)
  | [], s => refl s
  | a :: l, s => (hf s a).trans (foldl hf l (f s a))

/-- A law that every move keeps. -/
theorem keeps {P : State → Prop} (hP : ∀ {s t}, Move L s t → P s → P t) (h : Moves L s t) (hs : P s) : P t := by
  induction h with
  | refl => exact hs
  | tail _ hmove ih => exact hP hmove ih

theorem rest (h : Changes bs s t)
    (hb : bs ⊆ [.supply, .pins, .timebase, .engine, .array, .scan, .free] := by decide) : Moves L s t :=
  one (.rest (h.mono hb))

end Moves

end Sys2Proof.Machine
end

section

-- One theorem at a time, as in the tests: many proofs elaborated at once each hold a thread's stack.
set_option Elab.async false

/-! The moves of each shared operation, in the order of the operations' definitions. -/

namespace Sys2Proof.Machine

open State

/-! ## Moves of one block -/

namespace Move

variable {L : Licence → Prop} {s t : State}

/-- The store changes, but no operation of START begins and holder, lost-edge counts and erase counts stay. -/
theorem ofStore (h : Changes [.store] s t) (hop : t.store.op = s.store.op ∨ ∀ op, t.store.op = some op → op.task ≠ .scanRead)
    (hjob : t.store.holder = s.store.holder ∨ t.commitJob = none)
    (hmap : ∀ c, (t.store.map.get c).lost = (s.store.map.get c).lost)
    (hcounts : (∀ r, (t.store.table.get r).eraseCount = (s.store.table.get r).eraseCount) ∨ L .counts) : Move L s t := by
  refine .store h (fun op hsome hscan => ?_) (fun j hj => .inr ⟨j, ?_, rfl⟩) (fun c => .inl (hmap c).le) hcounts
  · obtain hsame | hno := hop
    · exact .inl (hsame ▸ hsome)
    · exact absurd hscan (hno op hsome)
  · obtain hsame | hnone := hjob
    · rw [← hj]
      simp only [commitJob, hsame]
    · rw [hnone] at hj
      exact absurd hj (by simp)

theorem ofOp (o : Option Operation) (ho : ∀ op, o = some op → op.task ≠ .scanRead) : Move L s (s.setOp o) :=
  .ofStore (setOp_changes s o) (.inr ho) (.inl rfl) (fun _ => rfl) (.inl fun _ => rfl)

theorem ofTable (h : Changes [.store] s t) (ht : ∃ table, t.store = { s.store with table := table })
    (hcounts : (∀ r, (t.store.table.get r).eraseCount = (s.store.table.get r).eraseCount) ∨ L .counts) : Move L s t := by
  obtain ⟨table, heq⟩ := ht
  exact .ofStore h (.inl (by rw [heq])) (.inl (by rw [heq])) (fun c => by rw [heq]) hcounts

theorem ofCapture (c : Channel) (k : CaptureChannel)
    (hpending : k.pending ≤ (s.capture.channels.get c).pending ∨ s.capture.state = .live ∧ k.pending ≤ 255)
    (hlost : k.lost ≤ (s.capture.channels.get c).lost ∨ k.lost ≤ 65535) : Move L s (s.setCaptureChannel c k) := by
  refine .capture (setCaptureChannel_changes s c k) rfl (fun d => ?_) (fun d => ?_) <;>
    simp only [setCaptureChannel, setCapture_capture, PerChannel.get_set] <;> split
  · subst d; exact hpending
  · exact .inl le_rfl
  · subst d
    obtain hlow | hhigh := hlost
    · exact .inl hlow
    · exact .inr (.inl hhigh)
  · exact .inl le_rfl

theorem ofAccount (c : Channel) (a : Account) (ha : a.delta ≤ (s.accum.accounts.get c).delta ∨ a.delta ≤ 2 ^ 48 - 1) :
    Move L s (s.setAccount c a) := by
  refine .accum (setAccount_changes s c a) (fun d => ?_)
  simp only [setAccount, setAccum_accum, PerChannel.get_set]
  split
  · subst d; exact ha
  · exact .inl le_rfl

/-- The accumulation unit changes but for its deltas. -/
theorem ofAccum (x : Accumulation) (hx : x.accounts = s.accum.accounts) : Move L s (s.setAccum x) :=
  .accum (setAccum_changes s x) fun c => .inl (by simp [hx])

/-- The scheduler changes but for its queue. -/
theorem ofSched (x : Scheduler) (hx : x.queue = s.sched.queue) : Move L s (s.setSched x) :=
  .sched (setSched_changes s x) (by simp [hx])

/-- The service session changes but for its state and the filtered SVC level. -/
theorem ofService (x : Service) (hsession : x.session = .closed ↔ s.service.session = .closed)
    (hsvc : x.svcFiltered = s.service.svcFiltered) : Move L s (s.setService x) :=
  .service (setService_changes s x) hsession (.inl hsvc)

/-- The power monitor changes but for the items the law joins. -/
theorem ofPower (h : Changes [.power] s t) (hdevice : t.power.device = s.power.device)
    (hwait : t.power.replyWait = s.power.replyWait) (howed : s.power.restartOwed = true → t.power.restartOwed = true)
    (hresume : t.power.resume.isSome = s.power.resume.isSome) (hpfail : t.power.pfailFiltered = s.power.pfailFiltered) :
    Move L s t :=
  .power h hdevice (.inl hwait) howed (.inl ⟨hresume, .inl hpfail⟩) (.inl hpfail)

end Move

namespace State

variable {L : Licence → Prop} (s : State)

/-! ## The array's operations -/

theorem setOp_moves (o : Option Operation) (ho : ∀ op, o = some op → op.task ≠ .scanRead) : Moves L s (s.setOp o) :=
  .one (.ofOp o ho)

theorem setOp_none_moves : Moves L s (s.setOp none) := s.setOp_moves none (by simp)

theorem beginOp_moves (x : Task) (k : Sector) (n off : Nat) (bs : List Byte) (hx : x ≠ .scanRead) :
    Moves L s (s.beginOp x k n off bs) :=
  s.setOp_moves _ (by rintro op ⟨⟩; exact hx)

theorem scramble_moves (k : Sector) (f : List Byte → List Byte) : Moves L s (s.scramble k f) :=
  .rest (scramble_changes s k f)

theorem endProgram_moves (op : Operation) (o : ProgramOutcome) : Moves L s (s.endProgram op o) := by
  unfold endProgram
  split
  · exact (setOp_none_moves _).after (.rest (setArray_changes ..))
  · exact (setOp_none_moves _).after (.after (.rest (setFree_changes ..)) (.rest (setArray_changes ..)))

theorem endErase_moves (op : Operation) (o : EraseOutcome) : Moves L s (s.endErase op o) := by
  unfold endErase
  split
  · exact (setOp_none_moves _).after (.rest (setArray_changes ..))
  · exact (setOp_none_moves _).after (scramble_moves ..)
  · exact (setOp_none_moves _).after (scramble_moves ..)

theorem tear_moves : Moves L s s.tear := by
  unfold tear
  split
  · exact .refl s
  · split
    · exact setOp_none_moves s
    · exact setOp_none_moves s
    · exact setOp_none_moves s
    · exact (setOp_none_moves _).after (scramble_moves ..)
    · exact (setOp_none_moves _).after (scramble_moves ..)
    all_goals exact (setOp_none_moves _).after (.after (.rest (setFree_changes ..)) (.rest (setArray_changes ..)))

/-! ## Notices, replies, jobs -/

theorem raise_moves (k : NoticeKind) (d : NoticeDetail) : Moves L s (s.raise k d) := .one (.notice (.raise k d rfl))

theorem startTransmitter_moves : Moves L s s.startTransmitter := .one (.link (.transmits rfl))

theorem answer_moves (owed : L .owed) (k tag : Byte) (a : Answer) : Moves L s (s.answer k tag a) :=
  .one (.link (.reply owed _ rfl))

theorem acceptJob_moves (owed : L .owed) (run : s.power.device = .run) (w : JobSlot) (tag : Byte) (j : JobState) :
    Moves L s (s.acceptJob w tag j) :=
  .one (.link (.accept owed w tag j rfl run))

theorem setJobState_moves (w : JobSlot) (j : JobState) : Moves L s (s.setJobState w j) := .one (.link (.jobState w j rfl))

theorem endJob_moves (w : JobSlot) (a : Answer) : Moves L s (s.endJob w a) := .one (.link (.endJob w a rfl))

theorem discard_moves (x : DiscardReason) : Moves L s (s.discard x) :=
  .ite (fun _ => .refl s) fun _ => (raise_moves ..).after (.one (.link (.discarded rfl)))

theorem restartIdle_moves : Moves L s s.restartIdle := by
  unfold restartIdle
  split
  · exact .refl s
  · next n hn => exact .one (.ofService _ (by simp [hn]) rfl)

theorem admitRequest_moves (x : Request) : Moves L s (s.admitRequest x) := by
  unfold admitRequest
  refine .ite (fun _ => s.discard_moves _) fun hrun => .ite (fun _ => s.discard_moves _) fun hplaces =>
    .ite (fun _ => s.discard_moves _) fun hcredits => ?_
  refine (restartIdle_moves _).after (.one (.link (.admitted x rfl ?_ (not_not.1 hrun))))
  simp only [Config.maxRequests, Config.maxCredits] at hplaces hcredits
  omega

theorem setReceiver_moves (x : Receiver) (g : Option Nat) : Moves L s (s.setReceiver x g) :=
  .one (.link (.line (setReceiver_changes s x g) ⟨_, _, _, rfl⟩))

theorem completeFrame_moves (n : Nat) (bs : List Byte) (x y : Byte) : Moves L s (s.completeFrame n bs x y) := by
  unfold completeFrame
  dsimp only
  refine .after ?_ (s.setReceiver_moves .hunt none)
  refine .ite (fun _ => ?_) fun _ => discard_moves ..
  split
  · exact admitRequest_moves ..
  · exact discard_moves ..

/-- A frame is discarded on its way. -/
theorem setReceiver_discard_moves (x : DiscardReason) : Moves L s ((s.setReceiver .hunt none).discard x) :=
  (discard_moves ..).after (s.setReceiver_moves ..)

theorem takeCharacter_moves (b : Byte) (e : Bool) : Moves L s (s.takeCharacter b e) := by
  unfold takeCharacter
  split
  · exact .ite (fun _ => s.setReceiver_moves ..) fun _ => .refl s
  · exact .ite (fun _ => s.setReceiver_discard_moves _) fun _ => .ite (fun _ => s.setReceiver_moves ..) fun _ =>
      s.setReceiver_discard_moves _
  · exact .ite (fun _ => s.setReceiver_discard_moves _) fun _ => .ite (fun _ => s.setReceiver_moves ..) fun _ =>
      s.setReceiver_moves ..
  · exact .ite (fun _ => s.setReceiver_discard_moves _) fun _ => s.setReceiver_moves ..
  · exact .ite (fun _ => s.setReceiver_discard_moves _) fun _ => s.completeFrame_moves ..

theorem gapExpiry_moves : Moves L s s.gapExpiry := s.setReceiver_discard_moves _

theorem gapTick_moves : Moves L s s.gapTick :=
  .ite (fun _ => s.gapExpiry_moves) fun _ => .one (.link (.line (setLink_changes ..) ⟨_, _, _, rfl⟩))

/-! ## Waiters, causes and the queue -/

theorem tell_moves (c : Channel) (o : Resolution) (w : JobSlot) : Moves L s (s.tell c o w) := by
  unfold tell
  split
  · exact .ite (fun _ => s.endJob_moves ..) fun _ => s.setJobState_moves ..
  · exact s.endJob_moves ..
  · exact .refl s

theorem tellAll_moves (c : Channel) (o : Resolution) (ws : List JobSlot) : Moves L s (s.tellAll c o ws) :=
  .foldl (fun x w => x.tell_moves c o w) ws s

theorem resolveExhausted_moves : Moves L s s.resolveExhausted := by
  unfold resolveExhausted
  have hempty : Moves L s (s.setSched { s.sched with queue := [], headWaiting := false }) :=
    .one (.sched (setSched_changes ..) (List.nil_sublist s.sched.queue))
  exact hempty.trans
    (Moves.foldl (f := fun x (e : QueueEntry) => x.tellAll e.channel .exhausted e.waiters)
      (fun x e => x.tellAll_moves e.channel .exhausted e.waiters) _ _)

section

variable (run : s.power.device = .run ∨ L .offRun)

include run

theorem deliverCause_moves (c : Channel) (k : Cause) (w : Option JobSlot) (hk : k ≠ .flush ∧ k ≠ .compact) :
    Moves L s (s.deliverCause c k w) := by
  unfold deliverCause
  dsimp only
  refine .after (.ite (fun _ => resolveExhausted_moves _) fun _ => .refl _) ?_
  exact .one (.deliver (setQueue_changes ..) c k w rfl hk run)

theorem deliverAll_moves (cs : List Channel) (k : Cause) (w : Option JobSlot) (hk : k ≠ .flush ∧ k ≠ .compact) :
    Moves L s (s.deliverAll cs k w) := by
  unfold deliverAll
  induction cs generalizing s with
  | nil => exact .refl s
  | cons c cs ih =>
    refine .after (ih (s.deliverCause c k w) ?_) (s.deliverCause_moves run c k w hk)
    rwa [(deliverCause_changes ..).power_eq]

theorem intervalExpiry_moves : Moves L s s.intervalExpiry :=
  .after (deliverAll_moves _ (by exact run) _ _ _ (by decide)) (.one (.ofSched _ rfl))

end

/-! ## Counts and drains -/

theorem setActiveTariff_moves (x : Tariff) : Moves L s (s.setAccum { s.accum with tariff := x }) := .one (.ofAccum _ rfl)

/-- The counts rise on a LIVE unit only (R13). -/
theorem addCount_moves (c : Channel) (live : s.capture.state = .live) : Moves L s (s.addCount c) := by
  unfold addCount
  dsimp only
  refine .ite (fun hroom => .one (.ofCapture c _ (.inr ⟨live, ?_⟩) (.inl le_rfl))) fun _ =>
    (raise_moves ..).after (.one (.ofCapture c _ (.inl le_rfl) (.inr (Nat.min_le_left ..))))
  simp only [Config.maxPending] at hroom
  exact hroom

theorem changeFiltered_moves (c : Channel) (live : s.capture.state = .live) : Moves L s (s.changeFiltered c) := by
  unfold changeFiltered
  dsimp only
  refine .after ?_ (.one (.ofCapture c { s.capture.channels.get c with
    filtered := (s.capture.channels.get c).sync, run := 0 } (.inl le_rfl) (.inl le_rfl)))
  exact .ite (fun _ => addCount_moves _ c live) fun _ => .refl _

theorem filterTick_moves (c : Channel) (live : s.capture.state = .live) : Moves L s (s.filterTick c) :=
  .ite (fun _ => .refl s) fun _ => .ite (fun _ => .one (.ofCapture c _ (.inl le_rfl) (.inl le_rfl))) fun _ =>
    .ite (fun _ => s.changeFiltered_moves c live) fun _ => .one (.ofCapture c _ (.inl le_rfl) (.inl le_rfl))

theorem timeTest_moves (c : Channel) (live : s.capture.state = .live) : Moves L s (s.timeTest c) :=
  .ite (fun _ => s.addCount_moves c live) fun _ => .refl s

theorem addCount_captureState (c : Channel) : (s.addCount c).capture.state = s.capture.state := by
  unfold addCount
  dsimp only
  split <;> rfl

theorem changeFiltered_captureState (c : Channel) : (s.changeFiltered c).capture.state = s.capture.state := by
  unfold changeFiltered
  dsimp only
  split
  · exact addCount_captureState ..
  · rfl

theorem filterTick_captureState (c : Channel) : (s.filterTick c).capture.state = s.capture.state := by
  unfold filterTick
  dsimp only
  split
  · rfl
  split
  · rfl
  split
  · exact changeFiltered_captureState ..
  · rfl

theorem timeTest_captureState (c : Channel) : (s.timeTest c).capture.state = s.capture.state := by
  unfold timeTest
  split
  · exact addCount_captureState ..
  · rfl

theorem captureTick_moves : Moves L s s.captureTick := by
  unfold captureTick
  refine .ite (fun live => ?_) fun _ => .refl s
  generalize Channel.all = cs
  induction cs generalizing s with
  | nil => exact .refl s
  | cons c cs ih =>
    have hfilter := (s.filterTick_captureState c).trans live
    exact .after (ih _ ((timeTest_captureState _ c).trans hfilter))
      (.after (timeTest_moves _ c hfilter) (s.filterTick_moves c live))

theorem takePending_moves (c : Channel) : Moves L s (s.takePending c) :=
  .one (.ofCapture c _ (.inl (Nat.zero_le _)) (.inl le_rfl))

theorem Account.drained_delta_le (a : Account) (x : Tariff) (p w : Nat) :
    (Account.drained a x p w).delta ≤ 2 ^ 48 - 1 :=
  Nat.min_le_left ..

theorem drainCounts_moves (c : Channel) : Moves L s (s.drainCounts c) := by
  unfold drainCounts
  dsimp only
  have hmoved : Moves L s ((s.takePending c).setAccount c (Account.drained (s.accum.accounts.get c) s.accum.tariff
      (s.capture.channels.get c).pending (s.liveChannel c).weight)) :=
    .after (.one (.ofAccount c _ (.inr (Account.drained_delta_le ..)))) (s.takePending_moves c)
  split
  · exact (raise_moves ..).after hmoved
  · exact hmoved

theorem drainCountsAll_moves : Moves L s s.drainCountsAll := .foldl (fun x c => x.drainCounts_moves c) _ s

section

variable (run : s.power.device = .run ∨ L .offRun)

include run

theorem thresholdStep_moves (c : Channel) : Moves L s (s.thresholdStep c) :=
  .ite (fun _ => s.deliverCause_moves run c _ _ (by decide)) fun _ => .refl s

theorem drain_moves (c : Channel) : Moves L s (s.drain c) := by
  refine .after (thresholdStep_moves _ ?_ c) (s.drainCounts_moves c)
  rwa [(drainCounts_changes ..).power_eq]

theorem drainAll_moves : Moves L s s.drainAll := by
  unfold drainAll
  generalize Channel.all = cs
  induction cs generalizing s with
  | nil => exact .refl s
  | cons c cs ih =>
    refine .after (ih (s.drain c) ?_) (s.drain_moves run c)
    rwa [(drain_changes ..).power_eq]

theorem tariffSwitch_moves (x : Tariff) : Moves L s (s.tariffSwitch x) := by
  unfold tariffSwitch
  dsimp only
  have hmoved : Moves L s (s.drainAll.setAccum { s.drainAll.accum with tariff := x }) :=
    (s.drainAll_moves run).trans (setActiveTariff_moves _ x)
  split
  · exact .refl s
  split
  · refine .after (deliverAll_moves _ ?_ _ _ _ (by decide)) hmoved
    rwa [setAccum_power, (drainAll_changes ..).power_eq]
  · exact hmoved

theorem followLines_moves : Moves L s s.followLines :=
  .ite (fun _ => s.tariffSwitch_moves run _) fun _ => .refl s

theorem loadEffect_moves (c : Channel) (b : PerTariff Bucket) (w : JobSlot) : Moves L s (s.loadEffect c b w) := by
  refine .after (deliverCause_moves _ (by rwa [(loadTotals_changes ..).power_eq]) _ _ _ (by decide)) ?_
  unfold loadTotals
  dsimp only
  refine .after (.one (.ofCapture c _ (.inl le_rfl) (.inl (Nat.zero_le _)))) ?_
  exact .after (.one (.ofAccount c _ (.inl le_rfl))) (s.drainCounts_moves c)

end

theorem drainRound_moves : Moves L s s.drainRound :=
  .ite (fun run => s.drainAll_moves (.inl run)) fun _ => .refl s

theorem tselChange_moves : Moves L s s.tselChange :=
  .after (.ite (fun run => followLines_moves _ (.inl run)) fun _ => .refl _) (.one (.ofAccum _ (by rfl)))

theorem tselTick_moves : Moves L s s.tselTick :=
  .ite (fun _ => .one (.ofAccum _ rfl)) fun _ => .ite (fun _ => .ite (fun _ => s.tselChange_moves) fun _ =>
    .one (.ofAccum _ (by rfl))) fun _ => .one (.ofAccum _ (by rfl))

end State

end Sys2Proof.Machine
end

section

-- One theorem at a time, as in the tests: many proofs elaborated at once each hold a thread's stack.
set_option Elab.async false

/-! The moves of the record store, the compaction engine and the arbiter in RUN, and what of the power monitor they keep. -/

namespace Sys2Proof.Machine

open State

/-! ## The job that holds the array -/

theorem commitJob_eq_some {s : State} {j : CommitJob} :
    s.commitJob = some j ↔ ∃ h, s.store.holder = some h ∧ h.job = .commit j := by
  unfold commitJob
  split
  · next i _ _ _ _ hholder =>
    rw [hholder]
    simp
  · next hno =>
    simp only [reduceCtorEq, false_iff, not_exists, not_and]
    intro h hholder hjob
    obtain ⟨job, attempts, place, sequence, fault⟩ := h
    subst hjob
    exact hno _ _ _ _ _ hholder

/-- A hold's commit job has the snapshot of the commit job in progress. -/
def HeldBy (s : State) (h : Hold) : Prop := ∀ j, h.job = .commit j → ∃ i, s.commitJob = some i ∧ j.snapshot = i.snapshot

namespace HeldBy

variable {s t : State} {h h' : Hold}

theorem of_holder (hs : s.store.holder = some h) : HeldBy s h :=
  fun j hj => ⟨j, commitJob_eq_some.2 ⟨h, hs, hj⟩, rfl⟩

theorem of_eq (hh : HeldBy s h) (ht : t.store.holder = s.store.holder) : HeldBy t h := by
  intro j hj
  obtain ⟨i, hi, hsnap⟩ := hh j hj
  exact ⟨i, by rw [← hi]; simp only [commitJob, ht], hsnap⟩

theorem of_job (hh : HeldBy s h) (hjob : h'.job = h.job) : HeldBy s h' := fun j hj => hh j (hjob ▸ hj)

end HeldBy

/-- The power monitor reads the same but for the not-written mask. -/
def Steady (s t : State) : Prop := t.power = { s.power with notWritten := t.power.notWritten }

namespace Steady

variable {s t u : State} {bs : List Block}

theorem of_power (h : t.power = s.power) : Steady s t := by
  unfold Steady
  rw [h]

theorem refl (s : State) : Steady s s := rfl

theorem trans (h : Steady s t) (h' : Steady t u) : Steady s u := by
  unfold Steady at *
  rw [h', h]

theorem of_changes (h : Changes bs s t) (hb : Block.power ∉ bs := by decide) : Steady s t := .of_power (h.power_eq hb)

theorem device (h : Steady s t) : t.power.device = s.power.device :=
  (congrArg Power.device (show t.power = { s.power with notWritten := t.power.notWritten } from h) :)

theorem replyWait (h : Steady s t) : t.power.replyWait = s.power.replyWait :=
  (congrArg Power.replyWait (show t.power = { s.power with notWritten := t.power.notWritten } from h) :)

theorem pfail (h : Steady s t) : t.power.pfailFiltered = s.power.pfailFiltered :=
  (congrArg Power.pfailFiltered (show t.power = { s.power with notWritten := t.power.notWritten } from h) :)

theorem resume (h : Steady s t) : t.power.resume = s.power.resume :=
  (congrArg Power.resume (show t.power = { s.power with notWritten := t.power.notWritten } from h) :)

end Steady

namespace State

variable {L : Licence → Prop} (s : State)

/-! ## Entries, holder, map -/

theorem setEntry_moves (r : RingSector) (e : SectorEntry) (he : e.eraseCount = (s.entry r).eraseCount ∨ L .counts) :
    Moves L s (s.setEntry r e) := by
  refine .one (.ofTable (setEntry_changes ..) ⟨_, rfl⟩ ?_)
  obtain hsame | hcounts := he
  · refine .inl fun q => ?_
    simp only [setEntry, setStore_store, PerRing.get_set]
    split
    · next hq => rw [hq, hsame]; rfl
    · rfl
  · exact .inr hcounts

theorem setSectorState_moves (r : RingSector) (x : SectorState) : Moves L s (s.setSectorState r x) :=
  s.setEntry_moves _ _ (.inl rfl)

theorem setHolder_none_moves : Moves L s (s.setHolder none) :=
  .one (.ofStore (setHolder_changes ..) (.inl rfl) (.inr rfl) (fun _ => rfl) (.inl fun _ => rfl))

/-- A job takes the array with a snapshot that stands in the capture unit, or goes on with the one it has. -/
theorem setHolder_moves (h : Hold) (hh : ∀ j, h.job = .commit j →
      j.snapshot.lost ≤ (s.capture.channels.get j.channel).lost ∨ ∃ i, s.commitJob = some i ∧ j.snapshot = i.snapshot) :
    Moves L s (s.setHolder (some h)) := by
  refine .one (.store (setHolder_changes ..) (fun _ h _ => .inl h) (fun j hj => ?_) (fun _ => .inl le_rfl)
    (.inl fun _ => rfl))
  obtain ⟨h', hholder, hjob⟩ := commitJob_eq_some.1 hj
  obtain rfl : h = h' := Option.some.inj hholder
  exact hh j hjob

theorem setHolder_held_moves {h : Hold} (hh : HeldBy s h) : Moves L s (s.setHolder (some h)) :=
  s.setHolder_moves h fun j hj => .inr (hh j hj)

theorem moveMapRecord_store (old : Option RingSector) (new : RingSector) :
    ∃ table, (s.moveMapRecord old new).store = { s.store with table := table } ∧
      ∀ r, (table.get r).eraseCount = (s.store.table.get r).eraseCount := by
  have hset : ∀ (s : State) (r : RingSector) (n : Nat) (q : RingSector),
      (((s.setEntry r { s.entry r with mapRecords := n }).store.table).get q).eraseCount =
        (s.store.table.get q).eraseCount := by
    intro s r n q
    simp only [setEntry, setStore_store, entry, PerRing.get_set]
    split
    · next hq => rw [hq]
    · rfl
  unfold moveMapRecord
  dsimp only
  split
  · exact ⟨_, rfl, fun _ => rfl⟩
  · cases old with
    | none => exact ⟨_, rfl, fun r => hset s new _ r⟩
    | some o => exact ⟨_, rfl, fun r => (hset _ new _ r).trans (hset s o _ r)⟩

theorem designate_store (c : Channel) (d : Designation) :
    ∃ table, (s.designate c d).store =
        { s.store with
          map := s.store.map.set c { s.store.map.get c with designated := some d }, table := table } ∧
      ∀ r, (table.get r).eraseCount = (s.store.table.get r).eraseCount := by
  obtain ⟨table, hstore, hcounts⟩ :=
    (s.setMapEntry c { s.store.map.get c with designated := some d }).moveMapRecord_store
      ((s.store.map.get c).designated.map (fun x => x.location.sector)) d.location.sector
  exact ⟨table, hstore, hcounts⟩

theorem designate_moves (c : Channel) (d : Designation) : Moves L s (s.designate c d) := by
  obtain ⟨table, hstore, hcounts⟩ := s.designate_store c d
  refine .one (.ofStore (designate_changes ..) (.inl (by rw [hstore])) (.inl (by rw [hstore])) (fun e => ?_)
    (.inl (by rw [hstore]; exact hcounts)))
  rw [hstore]
  simp only [PerChannel.get_set]
  split
  · next he => rw [he]
  · rfl

/-! ## Attempts and their ends -/

theorem commitFails_moves (j : CommitJob) (f : Option RingSector) : Moves L s (s.commitFails j f) := by
  unfold commitFails
  dsimp only
  have htold : ∀ {u : State}, Moves L s u → Moves L s (if j.cause = .flush then
      (u.tellAll j.channel .storeFailed j.waiters).setPower
        { (u.tellAll j.channel .storeFailed j.waiters).power with
          notWritten := (u.tellAll j.channel .storeFailed j.waiters).power.notWritten ||| channelBit j.channel }
      else u.tellAll j.channel .storeFailed j.waiters) := fun {u} hu => by
    refine (Moves.ite (fun _ => ?_) fun _ => .refl _).after ((u.tellAll_moves ..).after hu)
    exact .one (.ofPower (setPower_changes ..) rfl rfl id rfl rfl)
  cases f with
  | some r => exact htold ((raise_moves ..).after s.setHolder_none_moves)
  | none => exact htold (.after (.rest (setFree_changes ..)) ((raise_moves ..).after s.setHolder_none_moves))

theorem copyFails_moves (r : RingSector) (f : Option RingSector) : Moves L s (s.copyFails r f) :=
  .after (.rest (setEngine_changes ..)) ((raise_moves ..).after s.setHolder_none_moves)

theorem jobFails_moves (h : Hold) : Moves L s (s.jobFails h) := by
  unfold jobFails
  split
  · exact s.commitFails_moves ..
  · exact s.copyFails_moves ..
  · exact s.copyFails_moves ..

theorem beginRecord_moves {h : Hold} (hh : HeldBy s h) (r : RingSector) (e n : Nat) : Moves L s (s.beginRecord h r e n) := by
  unfold beginRecord
  split
  · exact .refl s
  · refine .after (beginOp_moves _ _ _ _ _ _ (by decide)) ?_
    refine .after (setHolder_held_moves _ ((hh.of_job rfl).of_eq rfl)) ?_
    exact .after (.one (.ofStore (setStore_changes ..) (.inl rfl) (.inl rfl) (fun _ => rfl) (.inl fun _ => rfl)))
      (s.setSectorState_moves ..)

theorem fillFullHead_cases : s.fillFullHead = s ∨ ∃ r x, s.fillFullHead = s.setSectorState r x := by
  unfold fillFullHead
  split
  · exact .inl rfl
  · split
    · split
      · exact .inr ⟨_, _, rfl⟩
      · exact .inl rfl
    · exact .inl rfl

theorem fillFullHead_moves : Moves L s s.fillFullHead := by
  obtain heq | ⟨r, x, heq⟩ := s.fillFullHead_cases <;> rw [heq]
  · exact .refl s
  · exact s.setSectorState_moves r x

theorem fillFullHead_holder : s.fillFullHead.store.holder = s.store.holder := by
  obtain heq | ⟨r, x, heq⟩ := s.fillFullHead_cases <;> rw [heq]
  rfl

theorem openHead_moves {h : Hold} (hh : HeldBy s h) : Moves L s (s.openHead h) := by
  unfold openHead
  dsimp only
  have hheld : HeldBy s.fillFullHead h := hh.of_eq s.fillFullHead_holder
  refine .after ?_ s.fillFullHead_moves
  generalize s.fillFullHead = u at hheld
  split
  · exact u.jobFails_moves h
  · refine .after (beginOp_moves _ _ _ _ _ _ (by decide)) (.one (.store (setStore_changes ..) (fun _ h _ => .inl h)
      (fun j hj => ?_) (fun _ => .inl le_rfl) (.inl fun _ => rfl)))
    obtain ⟨h', hholder, hjob⟩ := commitJob_eq_some.1 hj
    obtain rfl := Option.some.inj hholder
    exact .inr (hheld j hjob)

theorem takeSlot_moves {h : Hold} (hh : HeldBy s h) : Moves L s (s.takeSlot h) := by
  unfold takeSlot
  split
  · exact s.openHead_moves hh
  · split
    · exact .ite (fun _ => s.beginRecord_moves hh ..) fun _ => s.openHead_moves hh
    · exact s.openHead_moves hh

theorem nextAttempt_moves {h : Hold} (hh : HeldBy s h) : Moves L s (s.nextAttempt h) :=
  .ite (fun _ => s.jobFails_moves h) fun _ => s.takeSlot_moves hh

theorem attemptFailed_moves {h : Hold} (hh : HeldBy s h) (r : RingSector) : Moves L s (s.attemptFailed h r) := by
  unfold attemptFailed
  dsimp only
  refine .after (.ite (fun _ => jobFails_moves ..) fun _ => nextAttempt_moves _ (.of_holder rfl))
    (s.setHolder_held_moves (hh.of_job rfl))

/-- A commit's success: the map takes the snapshot of the job in progress. -/
theorem commitSucceeds_moves {j : CommitJob} (d : Designation) (hj : s.commitJob = some j) :
    Moves L s (s.commitSucceeds j d) := by
  unfold commitSucceeds
  dsimp only
  refine .after (tellAll_moves ..) (.after (.one (.ofAccount _ _ (.inl (Nat.sub_le ..)))) ?_)
  obtain ⟨table, hstore, hcounts⟩ := (s.setHolder none).designate_store j.channel d
  refine .one (.store ((setMapEntry_changes ..).after (by decide)
    ((designate_changes ..).after (by decide) (setHolder_changes ..))) ?_ ?_ ?_ ?_)
  all_goals simp only [setMapEntry, setStore_store, hstore, commitJob_eq_some]
  · exact fun _ h _ => .inl h
  · rintro i ⟨h, hnone, -⟩
    exact absurd hnone (by simp [setHolder])
  · intro c
    rw [PerChannel.get_set]
    split
    · exact .inr (.inr ⟨j, commitJob_eq_some.1 hj, rfl⟩)
    · next hc => exact .inl (le_of_eq (congrArg MapEntry.lost (PerChannel.get_set_ne _ _ hc)))
  · exact .inl hcounts

theorem copySucceeds_moves (j : CopyJob) (d : Designation) : Moves L s (s.copySucceeds j d) :=
  .after (.rest (setPhase_changes ..)) ((designate_moves ..).after s.setHolder_none_moves)

theorem jobSucceeds_moves {h : Hold} (hh : s.store.holder = some h) (l : Location) : Moves L s (s.jobSucceeds h l) := by
  unfold jobSucceeds
  split
  · next j hj => exact s.commitSucceeds_moves _ (commitJob_eq_some.2 ⟨h, hh, hj⟩)
  · exact .refl s
  · exact s.copySucceeds_moves ..

theorem testExhausted_moves : Moves L s s.testExhausted := by
  unfold testExhausted
  refine .ite (fun _ => (resolveExhausted_moves _).after ((raise_moves ..).after ?_)) fun _ => .refl s
  exact .one (.ofStore (setStore_changes ..) (.inl rfl) (.inl rfl) (fun _ => rfl) (.inl fun _ => rfl))

theorem startCommit_moves (e : QueueEntry) : Moves L s (s.startCommit e) := by
  unfold startCommit
  dsimp only
  refine .after ?_ (s.drainCounts_moves e.channel)
  generalize s.drainCounts e.channel = u
  refine .ite (fun _ => .after (nextAttempt_moves _ (.of_holder rfl)) (u.setHolder_moves _ ?_)) fun _ => u.tellAll_moves ..
  rintro j ⟨⟩
  exact .inl le_rfl

/-! ## The arbiter in RUN -/

theorem beginMark_moves (r : RingSector) : Moves L s (s.beginMark r) :=
  .after (beginOp_moves _ _ _ _ _ _ (by decide)) (.rest (setPhase_changes ..))

theorem beginErase_moves (r : RingSector) (n : Nat) : Moves L s (s.beginErase r n) :=
  .after (beginOp_moves _ _ _ _ _ _ (by decide)) (.rest (setPhase_changes ..))

theorem beginCount_moves (r : RingSector) : Moves L s (s.beginCount r) := beginOp_moves _ _ _ _ _ _ (by decide)

theorem examine_moves (r : RingSector) (n : Nat) : Moves L s (s.examine r n) := by
  unfold examine
  split
  · exact s.beginMark_moves r
  · refine .after (beginOp_moves _ _ _ _ _ _ (by decide)) (.after (setHolder_moves _ _ ?_) (.rest (setPhase_changes ..)))
    rintro j ⟨⟩

theorem engineStep_moves : Moves L s s.engineStep := by
  unfold engineStep
  split
  · split
    · exact s.beginErase_moves ..
    · split
      · exact s.examine_moves ..
      · exact .refl s
  · exact s.examine_moves ..
  · exact s.beginMark_moves ..
  · exact s.beginErase_moves ..
  · exact s.beginCount_moves ..

theorem beginApplyStep_moves (w : JobSlot) (i : Configuration) (p : ApplyProgress) :
    Moves L s (s.beginApplyStep w i p) := by
  unfold beginApplyStep
  dsimp only
  refine .after ?_ (s.setJobState_moves w (.apply i (some p)))
  split <;> exact beginOp_moves _ _ _ _ _ _ (by decide)

theorem jobStep_moves (j : HostJob) : Moves L s (s.jobStep j) := by
  unfold jobStep
  split
  · exact beginOp_moves _ _ _ _ _ _ (by decide)
  · exact s.beginApplyStep_moves ..
  · exact .ite (fun _ => s.endJob_moves ..) fun _ => s.beginApplyStep_moves ..
  · exact .refl s

theorem compactIfReady_moves : Moves L s s.compactIfReady := .ite (fun _ => s.engineStep_moves) fun _ => .refl s

theorem takeHead_moves : Moves L s s.takeHead := by
  unfold takeHead
  split
  · exact s.compactIfReady_moves
  · next e q hq =>
    refine .ite (fun _ => .after (startCommit_moves ..) (.one (.sched (setSched_changes ..) ?_))) fun _ =>
      .after (compactIfReady_moves _) (.one (.ofSched _ rfl))
    simp [hq]

theorem chooseRun_moves : Moves L s s.chooseRun := by
  unfold chooseRun
  refine .ite (fun _ => s.engineStep_moves) fun _ => ?_
  split
  · exact s.jobStep_moves _
  · exact .ite (fun _ => .refl s) fun _ => s.takeHead_moves

theorem arbitrateRun_moves (n : Nat) : Moves L s (arbitrateRun n s) := by
  induction n generalizing s with
  | zero => exact .refl s
  | succ n ih => exact .ite (fun _ => (ih _).after s.chooseRun_moves) fun _ => .refl s

theorem arbiterRun_moves : Moves L s s.arbiterRun := s.arbitrateRun_moves _

/-! ## What of the power monitor stays -/

theorem commitFails_steady (j : CommitJob) (f : Option RingSector) : Steady s (s.commitFails j f) := by
  unfold commitFails
  dsimp only
  have htold : ∀ {u : State}, Steady s u → Steady s (u.tellAll j.channel .storeFailed j.waiters) :=
    fun hu => hu.trans (.of_changes (tellAll_changes ..))
  have hfault : Steady s (match f with
      | some r => (s.setHolder none).storeFault (.ring r)
      | none => ((s.setHolder none).raise .storeFault (.sector (Config.freeSectorNumber (s.setHolder none).free))).setFree
          ((s.setHolder none).free + 1)) := by
    cases f <;> exact .of_power rfl
  split
  · exact (htold hfault).trans rfl
  · exact htold hfault

theorem jobFails_steady (h : Hold) : Steady s (s.jobFails h) := by
  unfold jobFails
  split
  · exact s.commitFails_steady ..
  · exact .of_changes (copyFails_changes ..)
  · exact .of_changes (copyFails_changes ..)

theorem openHead_steady (h : Hold) : Steady s (s.openHead h) := by
  unfold openHead
  dsimp only
  refine (Steady.of_changes s.fillFullHead_changes).trans ?_
  split
  · exact jobFails_steady ..
  · exact .of_power rfl

theorem takeSlot_steady (h : Hold) : Steady s (s.takeSlot h) := by
  unfold takeSlot
  split
  · exact s.openHead_steady h
  · split
    · split
      · exact .of_changes (beginRecord_changes ..)
      · exact s.openHead_steady h
    · exact s.openHead_steady h

theorem nextAttempt_steady (h : Hold) : Steady s (s.nextAttempt h) := by
  unfold nextAttempt
  split
  · exact s.jobFails_steady h
  · exact s.takeSlot_steady h

theorem startCommit_steady (e : QueueEntry) : Steady s (s.startCommit e) := by
  unfold startCommit
  dsimp only
  refine (Steady.of_changes (s.drainCounts_changes e.channel)).trans ?_
  split
  · exact (Steady.of_changes (setHolder_changes ..)).trans (nextAttempt_steady ..)
  · exact .of_changes (tellAll_changes ..)

theorem takeHead_steady : Steady s s.takeHead := by
  unfold takeHead
  split
  · exact .of_changes s.compactIfReady_changes
  · split
    · exact (Steady.of_changes (setSched_changes ..)).trans (startCommit_steady ..)
    · exact (Steady.of_changes (setSched_changes ..)).trans (.of_changes (compactIfReady_changes _))

theorem chooseRun_steady : Steady s s.chooseRun := by
  unfold chooseRun
  split
  · exact .of_changes s.engineStep_changes
  · split
    · exact .of_changes (s.jobStep_changes _)
    · split
      · exact .refl s
      · exact s.takeHead_steady

theorem arbitrateRun_steady (n : Nat) : Steady s (arbitrateRun n s) := by
  induction n generalizing s with
  | zero => exact .refl s
  | succ n ih =>
    unfold arbitrateRun
    split
    · exact s.chooseRun_steady.trans (ih _)
    · exact .refl s

theorem arbiterRun_steady : Steady s s.arbiterRun := s.arbitrateRun_steady _

end State

end Sys2Proof.Machine
end

section

-- One theorem at a time, as in the tests: many proofs elaborated at once each hold a thread's stack.
set_option Elab.async false

/-! The moves of the power monitor, of START and of the requests. -/

namespace Sys2Proof.Machine

open State

namespace State

variable {L : Licence → Prop} (s : State)

/-! ## Sessions and lines -/

theorem closing_moves (x : Service) (hx : x.session = .closed) :
    Moves L s ((s.setService x).setConfig { s.config with staged := s.config.live }) :=
  .one (.closes ((setConfig_changes ..).after (by decide) ((setService_changes ..).mono (by decide))) hx rfl)

theorem closeSession_moves (x : Option CloseReason) : Moves L s (s.closeSession x) := by
  unfold closeSession
  split
  · exact .refl s
  · dsimp only
    refine .after ?_ (s.closing_moves { s.service with session := .closed } rfl)
    split
    · exact raise_moves ..
    · exact .refl _

theorem svcChange_moves : Moves L s s.svcChange := by
  unfold svcChange
  dsimp only
  have htaken : (s.service.svcSync = true ∨ s.service.session = .closed) →
      Moves L s (s.setService { s.service with svcFiltered := s.service.svcSync, svcRun := 0 }) := fun h =>
    .one (.service (setService_changes ..) Iff.rfl (by rcases h with h | h <;> simp [h]))
  split
  · next hactive => exact htaken (.inl hactive)
  · unfold closeSession
    split
    · next hclosed => exact htaken (.inr hclosed)
    · exact (raise_moves ..).after (s.closing_moves
        { s.service with svcFiltered := s.service.svcSync, svcRun := 0, session := .closed } rfl)

theorem svcTick_moves : Moves L s s.svcTick :=
  .ite (fun _ => .one (.ofService _ Iff.rfl rfl)) fun _ => .ite (fun _ => s.svcChange_moves) fun _ =>
    .one (.ofService _ Iff.rfl rfl)

theorem takeLines_moves (offStart : L .offStart) : Moves L s s.takeLines := by
  unfold takeLines
  dsimp only
  refine .after (.one (.power (setPower_changes ..) rfl (.inl rfl) id (.inl ⟨rfl, .inr (.inr offStart)⟩)
    (.inr (.inr (.inr offStart))))) ?_
  exact .after (.one (.service (setService_changes ..) Iff.rfl (.inr (.inr (.inr offStart))))) (.one (.ofAccum _ rfl))

/-! ## The entry into START -/

theorem startEntry_moves (start : L .start) (k : StartCause) : Moves L s (s.startEntry k) := .one (.start start k rfl)

/-- START's first or next read begins. -/
theorem beginScanOp_moves (hst : s.power.device = .start ∨ L .offStart) (op : Operation) : Moves L s (s.setOp (some op)) :=
  .one (.store (setOp_changes ..) (fun _ _ _ => .inr hst) (fun j hj => .inr ⟨j, hj, rfl⟩) (fun _ => .inl le_rfl)
    (.inl fun _ => rfl))

theorem beginPhases_moves (hst : s.power.device = .start ∨ L .offStart) : Moves L s s.beginPhases :=
  .after (beginScanOp_moves _ (by exact hst) _) (.one (.link (.line (setLink_changes ..) ⟨_, _, _, rfl⟩)))

theorem startEntry_device (k : StartCause) : (s.startEntry k).power.device = .start := rfl

theorem owedRestart_moves (start : L .start) : Moves L s s.owedRestart :=
  .after (beginPhases_moves _ (.inl (s.startEntry_device _))) (s.startEntry_moves start _)

theorem loseSupply_moves (start : L .start) (live : L .live) : Moves L s s.loseSupply := by
  unfold loseSupply
  dsimp only
  have hentered : Moves L s (s.tear.startEntry s.power.startCause) := (startEntry_moves _ start _).after s.tear_moves
  generalize s.tear.startEntry s.power.startCause = u at hentered
  refine .after (.rest (setSupply_changes ..)) (.after (.rest (setTimebase_changes ..)) (.after (.one (.ofAccum _ rfl)) ?_))
  exact .after (.one (.config (setConfig_changes ..) (.inr live) (.inl rfl))) hentered

theorem samplePins_moves (p : PinLevels) : Moves L s (s.samplePins p) := by
  unfold samplePins
  dsimp only
  refine .after (.rest (setPins_changes ..)) (.after (.one (.ofPower (setPower_changes ..) rfl rfl id rfl rfl)) ?_)
  refine .after (.one (.ofService _ Iff.rfl rfl)) (.after (.one (.ofAccum _ rfl)) ?_)
  refine .one (.capture (setCapture_changes ..) rfl (fun c => .inl ?_) fun c => .inl ?_) <;>
    simp [CaptureChannel.fresh]

theorem powerUp_moves (start : L .start) (live : L .live) (p : PinLevels) : Moves L s (s.powerUp p) := by
  unfold powerUp
  dsimp only
  have hlow : Moves L s ((s.loseSupply.samplePins p).setSupply { (s.loseSupply.samplePins p).supply with powered := true }) :=
    .after (.rest (setSupply_changes ..)) (.after (samplePins_moves _ p) (s.loseSupply_moves start live))
  split
  · exact (startEntry_moves _ start _).after hlow
  · exact (beginPhases_moves _ (.inl (startEntry_device _ _))).after ((startEntry_moves _ start _).after hlow)

/-! ## FLUSH and RETAIN -/

theorem returnToRun_moves (hdevice : s.power.device ≠ .start) (howed : s.power.restartOwed = false)
    (hpfail : s.power.pfailFiltered = false ∨ L .offStart) : Moves L s s.returnToRun := by
  unfold returnToRun
  refine .after (arbiterRun_moves _) (.after (startTransmitter_moves _) (.after (followLines_moves _ (.inl rfl)) ?_))
  exact .one (.toRun rfl hdevice howed hpfail)

theorem endReplyWait_moves (start : L .start) : Moves L s s.endReplyWait :=
  .ite (fun _ => s.owedRestart_moves start) fun _ => .refl s

theorem notWrite_moves (m : ChannelMask) : Moves L s (s.notWrite m) :=
  .one (.ofPower (setPower_changes ..) rfl rfl id rfl rfl)

/-- FLUSH end, with an entry into START only where PFAIL is inactive (R125). -/
theorem flushEnd_moves (flush : s.power.device = .flush) (wait : s.power.replyWait = false)
    (start : s.power.pfailFiltered = true ∨ L .start) : Moves L s s.flushEnd := by
  unfold flushEnd
  dsimp only
  have hcleared : Moves L s ((s.raise .power (.power (flushDetail s.power.notWritten))).setPower
      { s.power with notWritten := 0 }) :=
    .after (.one (.ofPower (setPower_changes ..) rfl rfl id rfl rfl)) (raise_moves ..)
  split
  · next hpfail => exact .after (.one (.retain (setPower_changes ..) rfl flush hpfail wait)) hcleared
  · next hpfail =>
    have hstart : L .start := start.resolve_left hpfail
    split
    · next howed =>
      exact (endReplyWait_moves _ hstart).after (.after (.one (.power (setPower_changes ..) rfl (.inr ⟨flush, howed⟩) id
        (.inl ⟨rfl, .inl rfl⟩) (.inl rfl))) hcleared)
    · next howed =>
      refine (returnToRun_moves _ ?_ (by simpa using howed) (.inl (by simpa using hpfail))).after hcleared
      show s.power.device ≠ .start
      rw [flush]
      decide

theorem offerFlush_moves (cs : List Channel) (flush : s.power.device = .flush) (wait : s.power.replyWait = false)
    (start : s.power.pfailFiltered = true ∨ L .start) : Moves L s (offerFlush cs s) := by
  induction cs generalizing s with
  | nil => exact s.flushEnd_moves flush wait start
  | cons c rest ih =>
    have hlist : ∀ cs, Moves L s (s.setFlushList cs) := fun cs => .one (.ofSched _ rfl)
    unfold offerFlush
    split
    · exact .after (ih _ flush wait start) (.after (notWrite_moves ..) (hlist rest))
    split
    · exact .after (flushEnd_moves _ flush wait start) (.after (notWrite_moves ..) (hlist []))
    · dsimp only
      have hmoved := (startCommit_moves (L := L) _ { channel := c, cause := .flush, waiters := [] }).after (hlist rest)
      have hsteady := startCommit_steady (s.setFlushList rest) { channel := c, cause := .flush, waiters := [] }
      split
      · exact .after (ih _ (hsteady.device.trans flush) (hsteady.replyWait.trans wait) (by rwa [hsteady.pfail])) hmoved
      · exact hmoved

/-- The arbiter, with an entry into START only in a FLUSH with PFAIL inactive. -/
theorem arbiter_moves (start : s.power.device = .flush → s.power.pfailFiltered = true ∨ L .start) :
    Moves L s s.arbiter := by
  unfold arbiter
  split
  · exact s.arbiterRun_moves
  · next hflush =>
    split
    · next hfree =>
      exact s.offerFlush_moves _ hflush (by simpa using (Bool.and_eq_true_iff.1 hfree).2) (start hflush)
    · exact .refl s
  · exact .refl s
  · exact .refl s

theorem arbiter_run_moves (run : s.power.device = .run) : Moves L s s.arbiter :=
  s.arbiter_moves fun h => absurd (run.symm.trans h) (by decide)

theorem cutHolder_moves : Moves L s s.cutHolder := by
  unfold cutHolder
  split
  · exact s.setHolder_none_moves
  · split
    · next h hh =>
      split
      · next j hj =>
        refine s.setHolder_moves _ ?_
        rintro i ⟨⟩
        exact .inr ⟨j, commitJob_eq_some.2 ⟨h, hh, hj⟩, rfl⟩
      · exact .refl s
    · exact .refl s

theorem abortErase_moves : Moves L s s.abortErase := by
  unfold abortErase
  split
  · split
    · next hx => exact s.setOp_moves _ (by rintro op ⟨⟩; simp [hx])
    · next hx => exact s.setOp_moves _ (by rintro op ⟨⟩; simp [hx])
    · exact .refl s
  · exact .refl s

/-- FLUSH entry, move by move. -/
theorem enterFlush_loose_moves (loose : L .loose) : Moves L s s.enterFlush := by
  unfold enterFlush
  dsimp only
  refine .after (closeSession_moves _ _) (.after (.one (.link (.cancel rfl))) (.after (abortErase_moves _) (.after (cutHolder_moves _) ?_)))
  refine .after (.one (.sched (setSched_changes ..) (List.nil_sublist _))) (.after (drainCountsAll_moves _) ?_)
  exact .after (.one (.freeze loose (captureFreeze_changes _) rfl)) (.one (.device loose (setPower_changes ..)))

/-- FLUSH entry from RUN, or from a START that completes. -/
theorem enterFlush_moves {u : State} (hu : Changes [.power, .capture, .notices, .scan] s u) (hloose : L .loose → Moves L s u)
    (hnotices : u.notices.armed = s.notices.armed ∧ u.notices.mask = s.notices.mask)
    (hfrom : s.power.device = .run ∨ L .launch ∧ (s.store.op = none ∨ L .offStart)) : Moves L s u.enterFlush := by
  by_cases loose : L .loose
  · exact (u.enterFlush_loose_moves loose).after (hloose loose)
  · exact .one (.flush loose u hu rfl hnotices hfrom)

theorem enterFlush_power :
    s.enterFlush.power = { s.power with device := .flush, replyWait := false, resume := none, notWritten := 0 } := by
  unfold enterFlush
  dsimp only
  rw [(closeSession_changes ..).power_eq, (cancelAll_changes _).power_eq, (abortErase_changes _).power_eq,
    (cutHolder_changes _).power_eq, setSched_power, (drainCountsAll_changes _).power_eq, (captureFreeze_changes _).power_eq,
    setPower_power]

theorem flushEntry_moves {u : State} (hu : Changes [.power, .capture, .notices, .scan] s u)
    (hloose : L .loose → Moves L s u)
    (hnotices : u.notices.armed = s.notices.armed ∧ u.notices.mask = s.notices.mask)
    (hfrom : s.power.device = .run ∨ L .launch ∧ (s.store.op = none ∨ L .offStart))
    (start : u.power.pfailFiltered = true ∨ L .start) : Moves L s u.flushEntry := by
  refine (arbiter_moves _ fun _ => ?_).after (s.enterFlush_moves hu hloose hnotices hfrom)
  rwa [enterFlush_power]

theorem resumeExpiry_moves (start : L .start) (hdevice : s.power.device ≠ .start)
    (hpfail : s.power.pfailFiltered = false ∨ L .offStart) : Moves L s s.resumeExpiry := by
  unfold resumeExpiry
  split
  · exact s.owedRestart_moves start
  · next howed =>
    have hrun := (s.raise .power (.power .resumed)).returnToRun_moves (L := L) hdevice (eq_false_of_ne_true howed) hpfail
    exact hrun.after (raise_moves ..)

theorem resumeDue_iff : s.resumeDue = true ↔
    s.power.device = .retain ∧ ∃ n, s.power.resume = some n ∧ Config.resumeTicks ≤ n + 1 := by
  unfold resumeDue
  cases s.power.resume <;> simp

theorem resumeTick_moves (start : L .start)
    (hpfail : s.power.resume.isSome = true → s.power.pfailFiltered = false ∨ L .offStart) : Moves L s s.resumeTick := by
  unfold resumeTick
  split
  · next hdue =>
    obtain ⟨hretain, n, hn, -⟩ := s.resumeDue_iff.1 hdue
    exact s.resumeExpiry_moves start (by simp [hretain]) (hpfail (by simp [hn]))
  · exact .ite (fun _ => .one (.ofPower (setPower_changes ..) rfl rfl id (by simp) rfl)) fun _ => .refl s

theorem sendReply_moves (start : L .start) : Moves L s s.sendReply := by
  unfold sendReply
  split
  · next r rest hsending hreplies =>
    dsimp only
    refine .after (endReplyWait_moves _ start) (.after (startTransmitter_moves _) ?_)
    have hsent : Moves L s (s.setLink { s.link with replies := rest, transmitting := false, credits := s.link.credits - 1 }) :=
      .one (.link (.sent r rest hreplies rfl))
    generalize s.setLink { s.link with replies := rest, transmitting := false, credits := s.link.credits - 1 } = u at hsent
    have howes : Moves L u (u.setPower { u.power with restartOwed := true }) :=
      .one (.ofPower (setPower_changes ..) rfl rfl (fun _ => rfl) rfl rfl)
    cases hr : r.isRestart
    · simpa using hsent
    · simp only [Bool.true_and, if_true]
      split
      · next hrun =>
        refine .after ?_ hsent
        refine u.flushEntry_moves ((setPower_changes ..).mono (by decide)) (fun _ => howes) ⟨rfl, rfl⟩ (.inl ?_) (.inr start)
        simpa [isRun] using hrun
      · exact howes.after hsent
  · exact .refl s

end State

end Sys2Proof.Machine
end

section

-- One theorem at a time, as in the tests: many proofs elaborated at once each hold a thread's stack.
set_option Elab.async false

/-! The moves of START, of the requests, of the owners of array operations, and of every command. -/

namespace Sys2Proof.Machine

open State

/-! ## START -/

theorem parseRecord_lost_le {bs : List Byte} {x : ReadRecord} (h : parseRecord bs = some x) : x.content.lost ≤ 65535 := by
  unfold parseRecord at h
  split at h
  · split at h
    · cases h
      have hlt := leNat_lt (slice bs 27 2)
      have hlen : (slice bs 27 2).length ≤ 2 := by simp [slice]
      have hpow : 256 ^ (slice bs 27 2).length ≤ 256 ^ 2 := Nat.pow_le_pow_right (by decide) hlen
      show field bs 27 2 ≤ 65535
      unfold field
      omega
    · cases h
  · cases h

/-- What START's reads ask of a happening. -/
structure Starting (L : Licence → Prop) (s : State) : Prop where
  launch : L .launch
  counts : L .counts
  place : s.power.device = .start ∧ s.store.op = none ∨ L .offStart

namespace Starting

variable {L : Licence → Prop} {s t : State}

theorem of_eq (h : Starting L s) (hpower : t.power = s.power) (hop : t.store.op = s.store.op) : Starting L t :=
  ⟨h.launch, h.counts, by rw [hpower, hop]; exact h.place⟩

theorem reads (h : Starting L s) : s.power.device = .start ∨ L .offStart := h.place.imp_left And.left

end Starting

namespace State

variable {L : Licence → Prop} (s : State)

theorem beginScanRead_moves (hst : s.power.device = .start ∨ L .offStart) (x : ScanStep) (k : Sector) (n : Nat) :
    Moves L s (s.beginScanRead x k n) :=
  .after (beginScanOp_moves _ (by exact hst) _) (.rest (setScanStep_changes ..))

theorem configReadEnd_moves (hst : s.power.device = .start ∨ L .offStart) (n : Nat) (bs : List Byte)
    (live : 7 ≤ n → L .live) : Moves L s (s.configReadEnd n bs) := by
  unfold configReadEnd
  dsimp only
  have hscan : Moves L s (s.setScan { s.scan with configBytes := s.scan.configBytes ++ bs }) := .rest (setScan_changes ..)
  refine .after (.ite (fun _ => beginScanRead_moves _ (by exact hst) ..) fun hn => ?_) hscan
  refine .after (beginScanRead_moves _ (by exact hst) ..) ?_
  exact .one (.config (applyChosen_changes ..) (.inr (live (not_lt.1 hn))) (.inl rfl))

theorem offerRecord_moves (r : RingSector) (n : Nat) (x : ReadRecord) (hx : x.content.lost ≤ 65535) :
    Moves L s (s.offerRecord r n x) := by
  unfold offerRecord
  dsimp only
  refine .after (.ite (fun _ => .rest (setScan_changes ..)) fun _ => .refl _) (.ite (fun _ => ?_) fun _ => .refl s)
  refine .one (.store (setMapEntry_changes ..) (fun _ h _ => .inl h) (fun j hj => .inr ⟨j, hj, rfl⟩) (fun c => ?_)
    (.inl fun _ => rfl))
  simp only [setMapEntry, setStore_store, PerChannel.get_set]
  split
  · exact .inr (.inl hx)
  · exact .inl le_rfl

theorem rebuildStore_moves : Moves L s s.rebuildStore := by
  unfold rebuildStore
  dsimp only
  have hset : ∀ (u : State) (b : Bool), Moves L u (u.setStore { u.store with exhausted := b }) := fun u b =>
    .one (.ofStore (setStore_changes ..) (.inl rfl) (.inl rfl) (fun _ => rfl) (.inl fun _ => rfl))
  refine .after (hset _ _) (.one (.ofStore (setStore_changes ..) (.inl rfl) (.inl rfl) (fun _ => rfl) (.inl fun r => ?_)))
  simp [entry]

theorem rebuildLive_moves : Moves L s s.rebuildLive := by
  unfold rebuildLive
  dsimp only
  refine .after (.one (.capture (setCapture_changes ..) rfl (fun c => ?_) fun c => ?_))
    (.one (.accum (setAccum_changes ..) fun c => ?_))
  · exact .inl (by simp)
  · exact .inr (.inr (by simp))
  · exact .inl (by simp)

theorem rebuildTariff_moves : Moves L s s.rebuildTariff := s.setActiveTariff_moves _

theorem raiseStartNotices_moves : Moves L s s.raiseStartNotices := by
  unfold raiseStartNotices
  dsimp only
  refine .after (.ite (fun _ => raise_moves ..) fun _ => .refl _)
    (.after ?_ (s.raise_moves .power (.power (.started s.power.startCause))))
  exact .ite (fun _ => .refl _) fun _ => raise_moves ..

theorem raiseStartNotices_notices :
    s.raiseStartNotices.notices.armed = s.notices.armed ∧ s.raiseStartNotices.notices.mask = s.notices.mask := by
  unfold raiseStartNotices
  dsimp only
  split <;> split <;> exact ⟨rfl, rfl⟩

theorem enterRun_moves (st : Starting L s) : Moves L s s.enterRun := by
  have hpfail : (((s.setPower { s.power with device := .run }).setScanStep .done).captureLive.raiseStartNotices).power =
      { s.power with device := .run } := (raiseStartNotices_changes _).power_eq
  have hlaunch : (s.power.pfailFiltered = false ∨ L .loose) →
      Moves L s ((s.setPower { s.power with device := .run }).setScanStep .done).captureLive.raiseStartNotices := fun h =>
    .after (raiseStartNotices_moves _) (.after (t := (s.setPower { s.power with device := .run }).captureLive)
      (.rest (bs := [.scan]) (setScanStep_changes _ .done)) (.one (.launch st.launch rfl h st.place)))
  unfold enterRun
  dsimp only
  rw [hpfail]
  split
  · next hactive =>
    refine s.flushEntry_moves ?_ (fun loose => hlaunch (.inr loose)) (raiseStartNotices_notices _)
      (.inr ⟨st.launch, st.place.imp_left And.right⟩) (.inl (by rw [hpfail]; exact hactive))
    exact (raiseStartNotices_changes _).after (by decide) ((captureLive_changes _).after (by decide)
      ((setScanStep_changes ..).after (by decide) ((setPower_changes ..).mono (by decide))))
  · next hactive =>
    refine (arbiter_run_moves _ ?_).after ((setReceiver_moves ..).after (hlaunch (.inl (eq_false_of_ne_true hactive))))
    rw [(setReceiver_changes ..).power_eq, hpfail]

theorem completeStart_moves (st : Starting L s) : Moves L s s.completeStart := by
  unfold completeStart
  refine (enterRun_moves _ (st.of_eq ?_ ?_)).after
    ((rebuildTariff_moves _).after ((rebuildLive_moves _).after s.rebuildStore_moves))
  · rw [(rebuildTariff_changes _).power_eq, (rebuildLive_changes _).power_eq, (rebuildStore_changes _).power_eq]
  · rw [(rebuildTariff_changes _).store_eq, (rebuildLive_changes _).store_eq]
    rfl

theorem rebuildFrom_moves (st : Starting L s) (rs : List RingSector) : Moves L s (s.rebuildFrom rs) := by
  unfold rebuildFrom
  split
  · exact s.beginScanRead_moves st.reads ..
  · exact s.completeStart_moves st

theorem offerRecord_op (r : RingSector) (n : Nat) (x : ReadRecord) : (s.offerRecord r n x).store.op = s.store.op := by
  unfold offerRecord
  dsimp only
  split <;> split <;> rfl

theorem rebuildReadEnd_moves (st : Starting L s) (r : RingSector) (n : Nat) (bs : List Byte) :
    Moves L s (s.rebuildReadEnd r n bs) := by
  unfold rebuildReadEnd
  dsimp only
  have hgo : ∀ {u : State}, Moves L s u → Starting L u → Moves L s (if n < u.rebuildSlots r then
      u.beginScanRead (.rebuild r (n + 1)) (.ring r) (n + 1) else u.rebuildFrom (sectorsAfter r)) := fun {u} hu stu =>
    (Moves.ite (fun _ => u.beginScanRead_moves stu.reads ..) fun _ => u.rebuildFrom_moves stu _).after hu
  cases hx : parseRecord bs with
  | none => exact hgo (.refl s) st
  | some x =>
    exact hgo (s.offerRecord_moves r n x (parseRecord_lost_le hx))
      (st.of_eq (offerRecord_changes ..).power_eq (s.offerRecord_op r n x))

theorem secondPass_moves (st : Starting L s) : Moves L s s.secondPass := by
  unfold secondPass
  dsimp only
  have hset : ∀ x : Store, x.op = s.store.op → x.holder = s.store.holder → x.map = s.store.map →
      Moves L s (s.setStore x) := fun x hop hholder hmap =>
    .one (.ofStore (setStore_changes ..) (.inl hop) (.inl hholder) (fun c => by rw [setStore_store, hmap])
      (.inr st.counts))
  refine .after ?_ (hset
    { s.store with
      table := PerRing.ofFn (fun r => { s.entry r with eraseCount := settledCount s.scan.counts r })
      highestEpoch := s.scan.highestEpoch } rfl rfl rfl)
  split
  · exact beginScanRead_moves _ (by exact st.reads) ..
  · exact rebuildFrom_moves _ (st.of_eq (by rfl) (by rfl)) _

theorem nextHeader_moves (st : Starting L s) (r : RingSector) : Moves L s (s.nextHeader r) := by
  unfold nextHeader
  split
  · exact s.beginScanRead_moves st.reads ..
  · exact s.secondPass_moves st

theorem placed_moves (st : Starting L s) (r : RingSector) (x : SectorState) :
    Moves L s ((s.setSectorState r x).nextHeader r) :=
  (nextHeader_moves _ (st.of_eq (by rfl) (by rfl)) r).after (s.setSectorState_moves r x)

theorem headerReadEnd_moves (st : Starting L s) (r : RingSector) (bs : List Byte) : Moves L s (s.headerReadEnd r bs) := by
  unfold headerReadEnd
  dsimp only
  refine .after (t := s.setScan
    { s.scan with
      counts := s.scan.counts.set r (readCount bs).value?
      highestEpoch := max s.scan.highestEpoch ((readEpoch bs).value?.getD 0) }) ?_ (.rest (setScan_changes ..))
  split
  · exact placed_moves _ (st.of_eq (by rfl) (by rfl)) ..
  · exact beginScanRead_moves _ (by exact st.reads) ..

theorem contentReadEnd_moves (st : Starting L s) (r : RingSector) (n : Nat) (bs : List Byte) :
    Moves L s (s.contentReadEnd r n bs) :=
  .ite (fun _ => .ite (fun _ => s.beginScanRead_moves st.reads ..) fun _ => s.placed_moves st ..) fun _ =>
    s.placed_moves st ..

theorem headFound_moves (st : Starting L s) (r : RingSector) (x : SectorState) :
    Moves L s ((s.setSectorState r x).rebuildFrom RingSector.all) :=
  (rebuildFrom_moves _ (st.of_eq (by rfl) (by rfl)) _).after (s.setSectorState_moves r x)

theorem headReadEnd_moves (st : Starting L s) (r : RingSector) (e n : Nat) (bs : List Byte) :
    Moves L s (s.headReadEnd r e n bs) :=
  .ite (fun _ => .ite (fun _ => s.beginScanRead_moves st.reads ..) fun _ => s.headFound_moves st ..) fun _ =>
    s.headFound_moves st ..

theorem scanReadEnd_moves (st : Starting L s) (bs : List Byte) (live : ∀ n, 7 ≤ n → s.scan.step = .config n → L .live) :
    Moves L s (s.scanReadEnd bs) := by
  unfold scanReadEnd
  split
  · next n hn => exact s.configReadEnd_moves st.reads n bs fun h => live n h hn
  · exact s.headerReadEnd_moves st ..
  · exact s.contentReadEnd_moves st ..
  · exact s.headReadEnd_moves st ..
  · exact s.rebuildReadEnd_moves st ..
  · exact .refl s

/-! ## Requests -/

/-- What a request of a kind asks of a happening beside its reply. -/
def licensed (L : Licence → Prop) : RequestKind → Prop
  | .fetchNotice => L .fetch
  | .ackNotice => L .ack
  | .setNoticeMask => L .mask
  | _ => True

theorem setStaged_moves (hopen : s.sessionOpen = true) (c : Configuration) : Moves L s (s.setStaged c) :=
  .one (.config (setStaged_changes ..) (.inl ⟨rfl, rfl, rfl⟩) (.inr (.inl (by simpa [sessionOpen] using hopen))))

section

variable (owed : L .owed) (run : s.power.device = .run)

include owed

theorem reply_moves (k : RequestKind) (tag : Byte) (a : Answer) : Moves L s (s.reply k tag a) := s.answer_moves owed ..

theorem refuse_moves (k : RequestKind) (tag : Byte) (x : Status) : Moves L s (s.refuse k tag x) := s.answer_moves owed ..

theorem doFetchNotice_moves (fetch : L .fetch) (tag : Byte) (p : List Byte) : Moves L s (s.doFetchNotice tag p) := by
  unfold doFetchNotice
  split
  · exact s.refuse_moves owed ..
  · split
    · exact s.reply_moves owed ..
    · exact (reply_moves _ owed ..).after (.one (.notice (.fetch fetch _ rfl)))

theorem doAckNotice_moves (ack : L .ack) (tag : Byte) : Moves L s (s.doAckNotice tag) :=
  (reply_moves _ owed ..).after (.one (.notice (.ack ack rfl)))

theorem doSetNoticeMask_moves (mask : L .mask) (tag : Byte) (p : List Byte) : Moves L s (s.doSetNoticeMask tag p) := by
  refine (reply_moves _ owed ..).after (.one (.notice (.mask mask _ ?_ rfl)))
  rw [BitVec.getLsbD_and]
  simp

theorem doCloseService_moves (tag : Byte) : Moves L s (s.doCloseService tag) :=
  (reply_moves _ owed ..).after (s.closeSession_moves none)

theorem doStageChannel_moves (tag : Byte) (p : List Byte) : Moves L s (s.doStageChannel tag p) := by
  unfold doStageChannel
  refine .ite (fun hopen => ?_) fun _ => s.refuse_moves owed ..
  split
  · exact (reply_moves _ owed ..).after (s.setStaged_moves hopen _)
  · exact s.refuse_moves owed ..

theorem doStageGlobals_moves (tag : Byte) (p : List Byte) : Moves L s (s.doStageGlobals tag p) := by
  unfold doStageGlobals
  refine .ite (fun hopen => ?_) fun _ => s.refuse_moves owed ..
  split
  · exact (reply_moves _ owed ..).after (s.setStaged_moves hopen _)
  · exact s.refuse_moves owed ..

theorem doDiscardStaged_moves (tag : Byte) : Moves L s (s.doDiscardStaged tag) :=
  .ite (fun hopen => (reply_moves _ owed ..).after (s.setStaged_moves hopen _)) fun _ => s.refuse_moves owed ..

include run

theorem doOpenService_moves (tag : Byte) : Moves L s (s.doOpenService tag) := by
  unfold doOpenService
  split
  · next n hn => exact (reply_moves _ owed ..).after (.one (.ofService _ (by simp [hn]) rfl))
  · refine .ite (fun hsvc => (reply_moves _ owed ..).after (.one (.opens ?_ rfl rfl run hsvc))) fun _ =>
      s.refuse_moves owed ..
    exact (setConfig_changes ..).after (by decide) ((setService_changes ..).mono (by decide))

theorem doReadSlot_moves (tag : Byte) (p : List Byte) : Moves L s (s.doReadSlot tag p) := by
  unfold doReadSlot
  split
  · split
    · exact (arbiter_run_moves _ (by exact run)).after (s.acceptJob_moves owed run ..)
    · exact s.refuse_moves owed ..
  · exact s.refuse_moves owed ..

theorem doSetTariff_moves (tag : Byte) (p : List Byte) : Moves L s (s.doSetTariff tag p) := by
  unfold doSetTariff
  split
  · exact s.refuse_moves owed ..
  · next x _ =>
    refine .ite (fun _ => s.refuse_moves owed ..) fun _ => (arbiter_run_moves _ ?_).after
      ((reply_moves _ owed ..).after (s.tariffSwitch_moves (.inl run) x))
    rw [(reply_changes ..).power_eq, (tariffSwitch_changes ..).power_eq, run]

theorem doCommit_moves (tag : Byte) (p : List Byte) : Moves L s (s.doCommit tag p) := by
  unfold doCommit
  dsimp only
  refine .ite (fun _ => s.refuse_moves owed ..) fun _ => ?_
  split
  · exact s.refuse_moves owed ..
  · refine (arbiter_run_moves _ ?_).after ((deliverAll_moves _ (by exact .inl run) _ .request _ (by decide)).after
      (s.acceptJob_moves owed run ..))
    rw [(deliverAll_changes ..).power_eq, (acceptJob_changes ..).power_eq, run]

theorem doLoadTotals_moves (tag : Byte) (p : List Byte) : Moves L s (s.doLoadTotals tag p) := by
  unfold doLoadTotals
  refine .ite (fun _ => ?_) fun _ => s.refuse_moves owed ..
  split
  · exact s.refuse_moves owed ..
  · split
    · exact s.refuse_moves owed ..
    · next c _ _ w _ =>
      have haccepted := s.acceptJob_moves owed run w tag (.loadWait c)
      generalize hu : s.acceptJob w tag (.loadWait c) = u at haccepted
      have hurun : u.power.device = .run := by rw [← hu, (acceptJob_changes ..).power_eq, run]
      refine (arbiter_run_moves _ ?_).after ((u.loadEffect_moves (.inl hurun) c _ w).after haccepted)
      rw [(loadEffect_changes ..).power_eq, hurun]

theorem doApplyConfig_moves (tag : Byte) : Moves L s (s.doApplyConfig tag) := by
  unfold doApplyConfig
  refine .ite (fun _ => .ite (fun _ => s.refuse_moves owed ..) fun _ => ?_) fun _ => s.refuse_moves owed ..
  split
  · exact s.refuse_moves owed ..
  · exact (arbiter_run_moves _ (by exact run)).after (s.acceptJob_moves owed run ..)

theorem perform_moves (k : RequestKind) (hk : licensed L k) (tag : Byte) (p : List Byte) : Moves L s (s.perform k tag p) := by
  have href := fun k x => s.refuse_moves owed k tag x
  have hrep := fun k a => s.reply_moves owed k tag a
  cases k with
  | readChannel =>
    show Moves L s (s.doReadChannel tag p)
    unfold doReadChannel
    split
    · exact hrep ..
    · exact href ..
  | readCommitted =>
    show Moves L s (s.doReadCommitted tag p)
    unfold doReadCommitted
    split
    · exact hrep ..
    · exact href ..
  | readConfig =>
    show Moves L s (s.doReadConfig tag p)
    unfold doReadConfig
    dsimp only
    split
    · exact hrep ..
    · exact href ..
  | ping => exact hrep ..
  | getStatus => exact hrep ..
  | getStoreMap => exact .ite (fun _ => hrep ..) fun _ => href ..
  | readSlot => exact s.doReadSlot_moves owed run tag p
  | setTariff => exact s.doSetTariff_moves owed run tag p
  | commit => exact s.doCommit_moves owed run tag p
  | fetchNotice => exact s.doFetchNotice_moves owed hk tag p
  | ackNotice => exact s.doAckNotice_moves owed hk tag
  | setNoticeMask => exact s.doSetNoticeMask_moves owed hk tag p
  | openService => exact s.doOpenService_moves owed run tag
  | closeService => exact s.doCloseService_moves owed tag
  | stageChannel => exact s.doStageChannel_moves owed tag p
  | stageGlobals => exact s.doStageGlobals_moves owed tag p
  | applyConfig => exact s.doApplyConfig_moves owed run tag
  | discardStaged => exact s.doDiscardStaged_moves owed tag
  | loadTotals => exact s.doLoadTotals_moves owed run tag p
  | restart => exact hrep ..

theorem executeKnown_moves (k : RequestKind) (hk : licensed L k) (tag : Byte) (p : List Byte) :
    Moves L s (s.executeKnown k tag p fun s => s.perform k tag p) := by
  have hpop : Moves L s s.popRequest := .one (.link (.pop owed rfl))
  exact .ite (fun _ => (perform_moves _ owed (by exact run) k hk tag p).after hpop) fun _ =>
    (refuse_moves _ owed ..).after hpop

end

theorem executeUnknown_moves (owed : L .owed) (k tag : Byte) : Moves L s (s.executeUnknown k tag) :=
  (answer_moves _ owed ..).after (.one (.link (.pop owed rfl)))

theorem executeHead_moves (owed : L .owed)
    (hk : ∀ r rest k, s.link.requests = r :: rest → RequestKind.ofCode? r.kind = some k → licensed L k) :
    Moves L s s.executeHead := by
  unfold executeHead
  split
  · next r rest hrun hr =>
    split
    · next k hcode => exact s.executeKnown_moves owed hrun k (hk r rest k hr hcode) ..
    · exact s.executeUnknown_moves owed ..
  · exact .refl s

/-- The executor's row of a kind does what the executor does with such a head. -/
theorem executeAs_moves (owed : L .owed) (k : RequestKind) (hk : licensed L k) (tag : Byte) (p : List Byte) :
    Moves L s (s.executeAs k tag p fun s => s.perform k tag p) := by
  refine .ite (fun hhead => s.executeKnown_moves owed ?_ k hk tag p) fun _ => .refl s
  simp only [atHead, Bool.and_eq_true, isRun, beq_iff_eq] at hhead
  exact hhead.1

/-! ## Owners of array operations -/

theorem recordEnd_moves (o : ProgramOutcome) : Moves L s (s.recordEnd o) := by
  unfold recordEnd
  split
  · exact .refl s
  · next h hh =>
    split
    · exact .refl s
    · refine .ite (fun _ => s.setHolder_none_moves) fun _ => ?_
      split
      · exact beginOp_moves _ _ _ _ _ _ (by decide)
      · exact s.attemptFailed_moves (.of_holder hh) _

theorem confirmEnd_moves (o : ProgramOutcome) : Moves L s (s.confirmEnd o) := by
  unfold confirmEnd
  split
  · exact .refl s
  · next h hh =>
    split
    · exact .refl s
    · split
      · exact s.jobSucceeds_moves hh _
      · exact .ite (fun _ => s.setHolder_none_moves) fun _ => s.attemptFailed_moves (.of_holder hh) _

theorem epochEnd_moves (k : Sector) (o : ProgramOutcome) : Moves L s (s.epochEnd k o) := by
  unfold epochEnd
  split
  · exact .refl s
  · next r =>
    cases o with
    | pass =>
      refine .after ?_ (s.setSectorState_moves r (.opened s.store.highestEpoch 1))
      dsimp only
      split
      · exact .refl _
      · next h hh =>
        exact .ite (fun _ => setHolder_none_moves _) fun _ => beginRecord_moves _ (.of_holder hh) ..
    | fail =>
      refine .after ?_ (s.setSectorState_moves r .spoiled)
      dsimp only
      split
      · exact .refl _
      · next h hh =>
        exact .ite (fun _ => setHolder_none_moves _) fun _ => openHead_moves _ ((HeldBy.of_holder hh).of_job rfl)

theorem copyReadEnd_moves (bs : List Byte) : Moves L s (s.copyReadEnd bs) := by
  unfold copyReadEnd
  split
  · refine .ite (fun _ => s.setHolder_none_moves) fun _ => ?_
    dsimp only
    have hfault : ∀ r, Moves L s (if (s.copyCheck? ‹_› r bs).isSome = true then s else s.storeFault (.ring r)) :=
      fun r => .ite (fun _ => .refl s) fun _ => raise_moves ..
    refine .after (nextAttempt_moves _ (.of_holder rfl)) (.after (setHolder_moves _ _ ?_) (hfault _))
    rintro j ⟨⟩
  · exact .refl s

theorem retireEnd_moves (k : Sector) : Moves L s (s.retireEnd k) := by
  unfold retireEnd
  split
  · exact .refl s
  · exact .after (.rest (setPhase_changes ..)) (s.setSectorState_moves ..)

theorem wearOut_moves (r : RingSector) : Moves L s (s.wearOut r) :=
  .after (testExhausted_moves _) (.after (.rest (setPhase_changes ..)) (.after (raise_moves ..) (s.setSectorState_moves ..)))

theorem eraseEnd_moves (o : EraseOutcome) : Moves L s (s.eraseEnd o) := by
  unfold eraseEnd
  split
  · split
    · exact .rest (setPhase_changes ..)
    · exact .ite (fun _ => s.wearOut_moves _) fun _ => .rest (setPhase_changes ..)
    · exact .after (.rest (setPhase_changes ..)) (s.setSectorState_moves ..)
  · exact .refl s

theorem countEnd_moves (counts : L .counts) (o : ProgramOutcome) : Moves L s (s.countEnd o) := by
  unfold countEnd
  split
  · dsimp only
    exact .after (.ite (fun _ => testExhausted_moves _) fun _ => .refl _)
      (.after (.rest (setPhase_changes ..)) (s.setEntry_moves _ _ (.inr counts)))
  · exact .refl s

theorem recapture_moves (x : Configuration) : Moves L s (s.recapture x) := by
  refine .one (.capture (recapture_changes ..) rfl (fun c => .inl ?_) fun c => .inl ?_) <;>
    · simp only [recapture, setCapture_capture, PerChannel.get_ofFn]
      split <;> exact le_rfl

theorem followStaged_moves : Moves L s s.followStaged :=
  .ite (fun _ => .refl s) fun _ => .one (.config (setStaged_changes ..) (.inl ⟨rfl, rfl, rfl⟩) (.inl rfl))

theorem applySwap_moves (run : s.power.device = .run ∨ L .offRun) (live : L .live) (unstaged : L .unstaged)
    (image : Configuration) (p : ApplyProgress) : Moves L s (s.applySwap image p) := by
  unfold applySwap
  dsimp only
  have hlive : ∀ u : State, Moves L u (u.setConfig
      { u.config with live := image, generation := p.generation, liveSector := some p.target }) := fun u =>
    .one (.config (setConfig_changes ..) (.inr live) (.inr (.inr unstaged)))
  refine .after (followStaged_moves _) (.after (.ite (fun _ => .refl _) fun _ => restartIdle_moves _) ?_)
  refine .after (.ite (fun _ => .refl _) fun _ => .one (.ofSched _ rfl)) (.after (.ite (fun _ => ?_) fun _ => .refl _) ?_)
  · refine followLines_moves _ ?_
    rwa [(recapture_changes ..).power_eq, setConfig_power, (drainAll_changes _).power_eq]
  · exact (recapture_moves ..).after ((hlive _).after (s.drainAll_moves run))

theorem applyFails_moves (w : JobSlot) (p : ApplyProgress) : Moves L s (s.applyFails w p) :=
  (endJob_moves ..).after (raise_moves ..)

theorem configEraseEnd_moves (o : EraseOutcome) : Moves L s (s.configEraseEnd o) := by
  unfold configEraseEnd
  split
  · exact .refl s
  · split
    · exact s.setJobState_moves ..
    · exact s.applyFails_moves ..
    · exact .refl s

theorem applyJob?_eq_some {w : JobSlot} {image : Configuration} {p : ApplyProgress} (h : s.applyJob? = some (w, image, p)) :
    ∃ j, s.arrayJob? = some j ∧ j.slot = w ∧ j.state = .apply image (some p) := by
  unfold applyJob? at h
  split at h
  · next hj => cases h; exact ⟨_, hj, rfl, rfl⟩
  · cases h

/-- An image program's end: the swap, at the PASS of the APPLY job's slot 0, is what makes a configuration live. -/
theorem imageProgramEnd_moves (o : ProgramOutcome)
    (swap : ∀ j image p, s.arrayJob? = some j → j.state = .apply image (some p) → o = .pass → p.step = .program 0 →
      (s.power.device = .run ∨ L .offRun) ∧ L .live ∧ L .unstaged) : Moves L s (s.imageProgramEnd o) := by
  unfold imageProgramEnd
  split
  · exact .refl s
  · next w image p hjob =>
    split
    · exact s.applyFails_moves ..
    · exact s.setJobState_moves ..
    · next hstep =>
      obtain ⟨j, hj, -, hstate⟩ := s.applyJob?_eq_some hjob
      obtain ⟨run, live, unstaged⟩ := swap j image p hj hstate rfl hstep
      exact (endJob_moves ..).after (s.applySwap_moves run live unstaged image p)
    · exact .refl s

theorem slotReadEnd_moves (bs : List Byte) : Moves L s (s.slotReadEnd bs) := by
  unfold slotReadEnd
  split
  · exact s.endJob_moves ..
  · exact .refl s

/-! ## Time and inputs -/

theorem intervalSecond_moves : Moves L s s.intervalSecond := by
  refine .ite (fun hdue => s.intervalExpiry_moves (.inl ?_)) fun _ => .ite (fun _ => .one (.ofSched _ rfl)) fun _ => .refl s
  simp only [intervalDue, intervalRuns, isRun, Bool.and_eq_true, beq_iff_eq] at hdue
  exact hdue.1.1

theorem idleSecond_moves : Moves L s s.idleSecond := by
  refine .ite (fun _ => s.closeSession_moves _) fun _ => ?_
  split
  · exact .refl s
  · next n hn => exact .one (.ofService _ (by simp [hn]) rfl)

theorem takeSecond_moves : Moves L s s.takeSecond :=
  .after (idleSecond_moves _) (.after (intervalSecond_moves _) (.after (.rest (setEngine_changes ..))
    (.rest (setTimebase_changes ..))))

theorem secondTick_moves : Moves L s s.secondTick :=
  .ite (fun _ => s.takeSecond_moves) fun _ => .rest (setTimebase_changes ..)

theorem syncChannel_moves (c : Channel) (l : Level) : Moves L s (s.syncChannel c l) := by
  unfold syncChannel
  refine .ite (fun _ => .refl s) fun _ => ?_
  dsimp only
  refine .after (.ite (fun h => changeFiltered_moves _ c h.1) fun _ => .refl _)
    (.one (.ofCapture c { s.capture.channels.get c with sync := l } (.inl le_rfl) (.inl le_rfl)))

theorem syncPin_moves (p : Pin) (l : Level) : Moves L s (s.syncPin p l) := by
  cases p with
  | channel c => exact s.syncChannel_moves c l
  | tsel0 => exact .one (.ofAccum _ rfl)
  | tsel1 => exact .one (.ofAccum _ rfl)
  | svc => exact .one (.ofService _ Iff.rfl rfl)
  | pfail => exact .one (.ofPower (setPower_changes ..) rfl rfl id rfl rfl)
  | baud0 => exact .rest (setPins_changes ..)
  | baud1 => exact .rest (setPins_changes ..)

theorem pfailRises_moves : Moves L s s.pfailRises := by
  unfold pfailRises
  dsimp only
  have hoff : s.power.device ≠ .run → s.power.device ≠ .retain → Moves L s (s.setPfail true) := fun hrun hretain =>
    .one (.power (setPfail_changes ..) rfl (.inl rfl) id (.inl ⟨rfl, .inr (.inl hretain)⟩) (.inr (.inr (.inl hrun))))
  split
  · next hrun =>
    have hrun : s.power.device = .run := hrun
    refine s.flushEntry_moves ((setPfail_changes ..).mono (by decide)) (fun loose => ?_) ⟨rfl, rfl⟩ (.inl hrun) (.inl rfl)
    exact .one (.device loose (setPfail_changes ..))
  · next hretain =>
    have hretain : s.power.device = .retain := hretain
    refine .one (.power ((setResume_changes ..).trans (setPfail_changes ..)) rfl (.inl rfl) id (.inr ?_)
      (.inr (.inr (.inl ?_))))
    · simp [setResume, setPfail]
    · simp [hretain]
  · next hdevice =>
    have hdevice : s.power.device = .start := hdevice
    exact hoff (by simp [hdevice]) (by simp [hdevice])
  · next hdevice =>
    have hdevice : s.power.device = .flush := hdevice
    exact hoff (by simp [hdevice]) (by simp [hdevice])

theorem pfailFalls_moves : Moves L s s.pfailFalls := by
  unfold pfailFalls
  dsimp only
  have hoff : s.power.device ≠ .retain → Moves L s (s.setPfail false) := fun hretain =>
    .one (.power (setPfail_changes ..) rfl (.inl rfl) id (.inl ⟨rfl, .inr (.inl hretain)⟩) (.inr (.inl rfl)))
  split
  · next hdevice =>
    have hdevice : s.power.device = .retain := hdevice
    refine .one (.power ((setResume_changes ..).trans (setPfail_changes ..)) rfl (.inl rfl) id (.inr ?_) (.inr (.inl rfl)))
    simp [setResume, setPfail, hdevice]
  all_goals
    next hdevice =>
      refine hoff fun hretain => ?_
      have hdevice' := hretain.symm.trans hdevice
      cases hdevice'

end State

end Sys2Proof.Machine
end

section

-- One theorem at a time, as in the tests: many proofs elaborated at once each hold a thread's stack.
set_option Elab.async false

/-! The moves of every command. -/

namespace Sys2Proof.Machine

open State

/-- The live configuration may change in a command: at the end of CONFIG_SCAN's last read, at the PASS of the slot 0 program of
the APPLY job at work, and where working memory is lost with the supply (R102, R106, R110). -/
def MakesLive (s : State) (c : Instr) : Prop :=
  (c = .scanReadEnd ∧ ∃ n, 7 ≤ n ∧ s.scan.step = .config n) ∨
    (c = .imageProgramEnd .pass ∧ ∃ j image p, s.arrayJob? = some j ∧ j.state = .apply image (some p) ∧
      p.step = .program 0) ∨
    c = .supplyLoss ∨ ∃ p, c = .powerOn p

/-- What a command asks of a happening, where it asks something. -/
structure Permits (L : Licence → Prop) (s : State) (c : Instr) : Prop where
  start : c ≠ .scanReadEnd → L .start
  launch : c = .scanReadEnd → L .launch
  counts : (c = .scanReadEnd ∨ ∃ o, c = .countProgramEnd o) → L .counts
  live : MakesLive s c → L .live
  unstaged : c = .imageProgramEnd .pass → L .unstaged
  owed : (c.request?.isSome = true ∨ c = .tick) → L .owed
  kinds : ∀ k, executes s k c → licensed L k
  offRun : c = .imageProgramEnd .pass → s.link.jobs ≠ [] → s.power.device = .run ∨ L .offRun
  scan : c = .scanReadEnd → ∀ op, s.store.op = some op → op.task = .scanRead → s.power.device = .start ∨ L .offStart
  release : c = .resetRelease → L .offStart
  resume : s.power.resume.isSome = true → s.power.pfailFiltered = false ∨ L .offStart

namespace State

variable {L : Licence → Prop} (s : State)

/-! ## The tick before its resume timer -/

/-- A tick up to the executor. -/
def tickPrelude (s : State) : State := s.secondTick.svcTick.tselTick.captureTick.gapTick.drainRound

theorem tickEffects_eq : s.tickEffects = s.tickPrelude.executeHead.resumeTick := rfl

theorem tickPrelude_moves : Moves L s s.tickPrelude :=
  .after (drainRound_moves _) (.after (gapTick_moves _) (.after (captureTick_moves _) (.after (tselTick_moves _)
    (.after (svcTick_moves _) s.secondTick_moves))))

theorem tickPrelude_power : s.tickPrelude.power = s.power := by
  unfold tickPrelude
  rw [(drainRound_changes _).power_eq, (gapTick_changes _).power_eq, (captureTick_changes _).power_eq,
    (tselTick_changes _).power_eq, (svcTick_changes _).power_eq, (secondTick_changes _).power_eq]

theorem secondTick_requests : s.secondTick.link.requests = s.link.requests := by
  have htaken : s.takeSecond.link.requests = s.link.requests := by
    unfold takeSecond secondEffects
    rw [(idleSecond_changes _).link_eq]
    unfold intervalSecond
    split
    · exact (deliverAll_carries _ _ _ _).requests
    · split <;> rfl
  unfold secondTick
  split
  · exact htaken
  · rfl

theorem tselTick_requests : s.tselTick.link.requests = s.link.requests := by
  have hfollow : ∀ u : State, u.followLines.link.requests = u.link.requests := fun u => by
    unfold followLines
    split
    · exact tariffSwitch_requests u _
    · rfl
  unfold tselTick tselChange
  dsimp only
  split
  · rfl
  · split
    · split
      · split
        · exact hfollow _
        · rfl
      · rfl
    · rfl

theorem discard_requests (x : DiscardReason) : (s.discard x).link.requests = s.link.requests := by
  unfold discard
  split <;> rfl

theorem gapTick_requests : s.gapTick.link.requests = s.link.requests := by
  unfold gapTick gapExpiry
  split
  · exact discard_requests ..
  · rfl

theorem drainRound_requests : s.drainRound.link.requests = s.link.requests := by
  unfold drainRound
  split
  · exact s.drainAll_carries.requests
  · rfl

theorem tickPrelude_requests : s.tickPrelude.link.requests = s.link.requests := by
  unfold tickPrelude
  rw [drainRound_requests, gapTick_requests, (captureTick_changes _).link_eq, tselTick_requests, (svcTick_changes _).link_eq,
    secondTick_requests]

/-! ## The executor leaves the power monitor steady -/

theorem arbiter_run_steady (run : s.power.device = .run) : Steady s s.arbiter := by
  rw [s.arbiter_of_run run]
  exact s.arbiterRun_steady

/-- A part of a request's execution that leaves the power monitor alone, and then the arbiter. -/
theorem then_arbiter_steady {bs : List Block} {t : State} (run : s.power.device = .run) (h : Changes bs s t)
    (hb : Block.power ∉ bs := by decide) : Steady s t.arbiter :=
  (Steady.of_changes h hb).trans (t.arbiter_run_steady ((Steady.of_changes h hb).device.trans run))

theorem doReadSlot_steady (run : s.power.device = .run) (tag : Byte) (p : List Byte) : Steady s (s.doReadSlot tag p) := by
  unfold doReadSlot
  split
  · split
    · exact s.then_arbiter_steady run (acceptJob_changes ..)
    · exact .of_changes (refuse_changes ..)
  · exact .of_changes (refuse_changes ..)

theorem doSetTariff_steady (run : s.power.device = .run) (tag : Byte) (p : List Byte) : Steady s (s.doSetTariff tag p) := by
  unfold doSetTariff
  split
  · exact .of_changes (refuse_changes ..)
  · split
    · exact .of_changes (refuse_changes ..)
    · exact s.then_arbiter_steady run ((reply_changes ..).after (by decide) (tariffSwitch_changes ..))

theorem doCommit_steady (run : s.power.device = .run) (tag : Byte) (p : List Byte) : Steady s (s.doCommit tag p) := by
  unfold doCommit
  dsimp only
  split
  · exact .of_changes (refuse_changes ..)
  · split
    · exact .of_changes (refuse_changes ..)
    · exact s.then_arbiter_steady run ((acceptJob_changes ..).mono (by decide) |>.trans (deliverAll_changes ..))

theorem doLoadTotals_steady (run : s.power.device = .run) (tag : Byte) (p : List Byte) :
    Steady s (s.doLoadTotals tag p) := by
  unfold doLoadTotals
  split
  · split
    · exact .of_changes (refuse_changes ..)
    · split
      · exact .of_changes (refuse_changes ..)
      · exact s.then_arbiter_steady run ((acceptJob_changes ..).mono (by decide) |>.trans (loadEffect_changes ..))
  · exact .of_changes (refuse_changes ..)

theorem doApplyConfig_steady (run : s.power.device = .run) (tag : Byte) : Steady s (s.doApplyConfig tag) := by
  unfold doApplyConfig
  split
  · split
    · exact .of_changes (refuse_changes ..)
    · split
      · exact .of_changes (refuse_changes ..)
      · exact s.then_arbiter_steady run (acceptJob_changes ..)
  · exact .of_changes (refuse_changes ..)

theorem perform_steady (run : s.power.device = .run) (k : RequestKind) (tag : Byte) (p : List Byte) :
    Steady s (s.perform k tag p) := by
  cases k with
  | ping => exact .of_changes (doPing_changes ..)
  | getStatus => exact .of_changes (doGetStatus_changes ..)
  | readChannel => exact .of_changes (doReadChannel_changes ..)
  | readCommitted => exact .of_changes (doReadCommitted_changes ..)
  | getStoreMap => exact .of_changes (doGetStoreMap_changes ..)
  | readSlot => exact s.doReadSlot_steady run tag p
  | setTariff => exact s.doSetTariff_steady run tag p
  | commit => exact s.doCommit_steady run tag p
  | fetchNotice => exact .of_changes (doFetchNotice_changes ..)
  | ackNotice => exact .of_changes (doAckNotice_changes ..)
  | setNoticeMask => exact .of_changes (doSetNoticeMask_changes ..)
  | openService => exact .of_changes (doOpenService_changes ..)
  | closeService => exact .of_changes (doCloseService_changes ..)
  | stageChannel => exact .of_changes (doStageChannel_changes ..)
  | stageGlobals => exact .of_changes (doStageGlobals_changes ..)
  | readConfig => exact .of_changes (doReadConfig_changes ..)
  | applyConfig => exact s.doApplyConfig_steady run tag
  | discardStaged => exact .of_changes (doDiscardStaged_changes ..)
  | loadTotals => exact s.doLoadTotals_steady run tag p
  | restart => exact .of_changes (doRestart_changes ..)

theorem executeHead_steady : Steady s s.executeHead := by
  unfold executeHead
  split
  · next r rest hrun hr =>
    have hpop : Steady s s.popRequest := .of_changes s.popRequest_changes
    split
    · unfold executeKnown
      split
      · exact hpop.trans (perform_steady _ (hpop.device.trans hrun) ..)
      · exact hpop.trans (.of_changes (refuse_changes ..))
    · exact .of_changes (executeUnknown_changes ..)
  · exact .refl s

theorem tickEffects_moves (start : L .start) (owed : L .owed) (kinds : ∀ k, executes s k .tick → licensed L k)
    (resume : s.power.resume.isSome = true → s.power.pfailFiltered = false ∨ L .offStart) : Moves L s s.tickEffects := by
  have hsteady := s.tickPrelude.executeHead_steady
  rw [tickEffects_eq]
  refine .after (resumeTick_moves _ start ?_) (.after (executeHead_moves _ owed fun r rest k hr hk => ?_) s.tickPrelude_moves)
  · rw [hsteady.resume, hsteady.pfail, tickPrelude_power]
    exact resume
  · rw [tickPrelude_requests] at hr
    refine kinds k (.inr ⟨rfl, r, rest, hr, ?_⟩)
    revert hk
    unfold RequestKind.ofCode?
    generalize hn : r.kind.toNat = n
    intro hk
    have hkind : r.kind = BitVec.ofNat 8 n := by rw [← hn, BitVec.ofNat_toNat, BitVec.setWidth_eq]
    rw [hkind]
    split at hk <;> cases hk <;> rfl

/-! ## Ends of operations -/

theorem atEnd_moves {x : Task} {f : Operation → State} (h : ∀ op, s.store.op = some op → op.task = x → Moves L s (f op)) :
    Moves L s (s.atEnd x f) := by
  unfold atEnd
  split
  · next op hop => exact .ite (fun hx => h op hop hx) fun _ => .refl s
  · exact .refl s

theorem arbitrated_moves (start : L .start) {t : State} (h : Moves L s t) : Moves L s t.arbiter :=
  (arbiter_moves _ fun _ => .inr start).after h

/-- A program's end, its owner's part and the arbiter. -/
theorem programEnd_moves (start : L .start) {x : Task} {o : ProgramOutcome} {f : State → Operation → State}
    (h : ∀ op, Moves L (s.endProgram op o) (f (s.endProgram op o) op)) :
    Moves L s (s.atEnd x fun op => (f (s.endProgram op o) op).arbiter) :=
  s.atEnd_moves fun op _ _ => s.arbitrated_moves start ((h op).after (s.endProgram_moves op o))

/-- An erase's end, its owner's part and the arbiter. -/
theorem eraseEnd_chooses_moves (start : L .start) {x : Task} {o : EraseOutcome} {f : State → State}
    (h : ∀ u, Moves L u (f u)) : Moves L s (s.atEraseEnd x o fun op => (f (s.endErase op o)).arbiter) :=
  s.atEnd_moves fun op _ _ =>
    .ite (fun _ => s.arbitrated_moves start ((h _).after (s.endErase_moves op o))) fun _ => .refl s

theorem takeSecond_arbiter_moves (start : L .start) : Moves L s s.takeSecond.arbiter :=
  s.arbitrated_moves start s.takeSecond_moves

end State

/-- The request a row executes is licensed as its kind is. -/
theorem Permits.row {L : Licence → Prop} {s : State} {c : Instr} (h : Permits L s c) {k : RequestKind} {tag : Byte}
    {p : List Byte} (hrow : c.request? = some (k.code, tag, p)) : L .owed ∧ licensed L k :=
  ⟨h.owed (.inl (by rw [hrow]; rfl)), h.kinds k (.inl ⟨tag, p, hrow⟩)⟩

theorem execution_moves {L : Licence → Prop} {s : State} {c : Instr} (h : Permits L s c) (k : RequestKind) {tag : Byte}
    {p : List Byte} (hrow : c.request? = some (k.code, tag, p)) :
    Moves L s (s.executeAs k tag p fun s => s.perform k tag p) :=
  s.executeAs_moves (h.row hrow).1 k (h.row hrow).2 tag p

/-- Every command is a sequence of moves. -/
theorem exec_moves {L : Licence → Prop} {s : State} {c : Instr} (h : Permits L s c) :
    ∃ t, exec c s = .next t ∧ Moves L s t := by
  cases c with
  | powerOn p => exact ⟨_, rfl, s.powerUp_moves (h.start nofun) (h.live (.inr (.inr (.inr ⟨p, rfl⟩)))) p⟩
  | resetLineActive =>
    by_cases hr : s.supply.resetLine
    · exact ⟨s, by simp [exec, execResetLineActive, hr], .refl _⟩
    · refine ⟨_, by simp only [exec, execResetLineActive, hr]; rfl, .ite (fun _ => ?_) fun _ => .rest (setSupply_changes ..)⟩
      exact (startEntry_moves _ (h.start (by decide)) _).after ((tear_moves _).after (.rest (setSupply_changes ..)))
  | resetRelease =>
    by_cases hr : s.supply.resetLine
    · refine ⟨_, by simp only [exec, execResetRelease, hr]; rfl, .ite (fun _ => ?_) fun _ => .rest (setSupply_changes ..)⟩
      exact (beginPhases_moves _ (.inr (h.release rfl))).after
        ((takeLines_moves _ (h.release rfl)).after (.rest (setSupply_changes ..)))
    · exact ⟨s, by simp [exec, execResetRelease, hr], .refl _⟩
  | supplyLoss =>
    exact ⟨_, rfl, .ite (fun _ => s.loseSupply_moves (h.start (by decide)) (h.live (.inr (.inr (.inl rfl))))) fun _ =>
      .refl s⟩
  | tick =>
    have start := h.start (by decide)
    exact ⟨_, rfl, .ite (fun _ => s.arbitrated_moves start
      (s.tickEffects_moves start (h.owed (.inr rfl)) h.kinds h.resume)) fun _ => .refl s⟩
  | secondEvent => exact ⟨_, rfl, .ite (fun _ => s.takeSecond_arbiter_moves (h.start (by decide))) fun _ => .refl s⟩
  | intervalTimerExpiry => exact ⟨_, rfl, .ite (fun _ => s.takeSecond_arbiter_moves (h.start (by decide))) fun _ => .refl s⟩
  | idleTimerExpiry => exact ⟨_, rfl, .ite (fun _ => s.takeSecond_arbiter_moves (h.start (by decide))) fun _ => .refl s⟩
  | tselFilteredChange =>
    exact ⟨_, rfl, .ite (fun _ => s.arbitrated_moves (h.start (by decide)) s.tselChange_moves) fun _ => .refl s⟩
  | synchronisedLevelChange p l => exact ⟨_, rfl, .ite (fun _ => s.syncPin_moves p l) fun _ => .refl s⟩
  | filteredLevelChange c =>
    refine ⟨_, rfl, .ite (fun hdue => s.changeFiltered_moves c ?_) fun _ => .refl s⟩
    simp only [filterDue, Bool.and_eq_true, beq_iff_eq] at hdue
    exact hdue.2.1.1.1
  | svcFilteredChange => exact ⟨_, rfl, .ite (fun _ => s.svcChange_moves) fun _ => .refl s⟩
  | pfailActive => exact ⟨_, rfl, .ite (fun _ => s.pfailRises_moves) fun _ => .refl s⟩
  | pfailInactive => exact ⟨_, rfl, .ite (fun _ => s.pfailFalls_moves) fun _ => .refl s⟩
  | resumeTimerExpiry =>
    refine ⟨_, rfl, .ite (fun hdue => ?_) fun _ => .refl s⟩
    obtain ⟨hretain, n, hn, -⟩ := s.resumeDue_iff.1 (Bool.and_eq_true_iff.1 hdue).2
    exact s.resumeExpiry_moves (h.start (by decide)) (by simp [hretain]) (h.resume (by simp [hn]))
  | gapTimerExpiry => exact ⟨_, rfl, .ite (fun _ => s.gapExpiry_moves) fun _ => .refl s⟩
  | characterReceived b e => exact ⟨_, rfl, .ite (fun _ => s.takeCharacter_moves b e) fun _ => .refl s⟩
  | replySent => exact ⟨_, rfl, s.sendReply_moves (h.start (by decide))⟩
  | requestFrame last =>
    refine ⟨_, rfl, ?_⟩
    split
    · exact s.completeFrame_moves ..
    · exact .refl s
  | scanReadEnd =>
    refine ⟨_, rfl, s.atEnd_moves fun op hop hx => (scanReadEnd_moves _ ⟨h.launch rfl, h.counts (.inl rfl), ?_⟩ _ ?_).after
      s.setOp_none_moves⟩
    · exact (h.scan rfl op hop hx).imp_left fun hdevice => ⟨hdevice, rfl⟩
    · exact fun n hn hstep => h.live (.inl ⟨rfl, n, hn, hstep⟩)
  | recordProgramEnd o => exact ⟨_, rfl, s.programEnd_moves (f := fun u _ => u.recordEnd o) (h.start nofun)
      fun _ => recordEnd_moves _ o⟩
  | confirmProgramEnd o => exact ⟨_, rfl, s.programEnd_moves (f := fun u _ => u.confirmEnd o) (h.start nofun)
      fun _ => confirmEnd_moves _ o⟩
  | epochProgramEnd o => exact ⟨_, rfl, s.programEnd_moves (f := fun u op => u.epochEnd op.sector o) (h.start nofun)
      fun op => epochEnd_moves _ op.sector o⟩
  | retireProgramEnd o => exact ⟨_, rfl, s.programEnd_moves (f := fun u op => u.retireEnd op.sector) (h.start nofun)
      fun op => retireEnd_moves _ op.sector⟩
  | countProgramEnd o =>
    exact ⟨_, rfl, s.programEnd_moves (f := fun u _ => u.countEnd o) (h.start nofun)
      fun _ => countEnd_moves _ (h.counts (.inr ⟨o, rfl⟩)) o⟩
  | imageProgramEnd o =>
    refine ⟨_, rfl, s.programEnd_moves (f := fun u _ => u.imageProgramEnd o) (h.start nofun)
      fun op => imageProgramEnd_moves _ o fun j image p hj hstate ho hstep => ?_⟩
    subst ho
    have hlink : (s.endProgram op .pass).link = s.link := (endProgram_changes ..).link_eq
    have hjob : s.arrayJob? = some j := by rw [← hj]; simp only [arrayJob?, hlink]
    have hjobs : s.link.jobs ≠ [] := fun hnil => by simp [arrayJob?, hnil] at hjob
    rw [(endProgram_changes ..).power_eq]
    exact ⟨h.offRun rfl hjobs, h.live (.inr (.inl ⟨rfl, j, image, p, hjob, hstate, hstep⟩)), h.unstaged rfl⟩
  | eraseEnd o => exact ⟨_, rfl, s.eraseEnd_chooses_moves (h.start nofun) fun u => u.eraseEnd_moves o⟩
  | configEraseEnd o => exact ⟨_, rfl, s.eraseEnd_chooses_moves (h.start nofun) fun u => u.configEraseEnd_moves o⟩
  | copyReadEnd =>
    exact ⟨_, rfl, s.atEnd_moves fun op _ _ => s.arbitrated_moves (h.start (by decide))
      ((copyReadEnd_moves _ _).after s.setOp_none_moves)⟩
  | slotReadEnd =>
    exact ⟨_, rfl, s.atEnd_moves fun op _ _ => s.arbitrated_moves (h.start (by decide))
      ((slotReadEnd_moves _ _).after s.setOp_none_moves)⟩
  | unknownKind k tag p => exact ⟨_, rfl, .ite (fun _ => s.executeUnknown_moves (h.owed (.inl rfl)) k tag) fun _ => .refl s⟩
  | ping tag p => exact ⟨_, rfl, execution_moves h .ping rfl⟩
  | getStatus tag p => exact ⟨_, rfl, execution_moves h .getStatus rfl⟩
  | readChannel tag p => exact ⟨_, rfl, execution_moves h .readChannel rfl⟩
  | readCommitted tag p => exact ⟨_, rfl, execution_moves h .readCommitted rfl⟩
  | getStoreMap tag p => exact ⟨_, rfl, execution_moves h .getStoreMap rfl⟩
  | readSlot tag p => exact ⟨_, rfl, execution_moves h .readSlot rfl⟩
  | setTariff tag p => exact ⟨_, rfl, execution_moves h .setTariff rfl⟩
  | commit tag p => exact ⟨_, rfl, execution_moves h .commit rfl⟩
  | fetchNotice tag p => exact ⟨_, rfl, execution_moves h .fetchNotice rfl⟩
  | ackNotice tag p => exact ⟨_, rfl, execution_moves h .ackNotice rfl⟩
  | setNoticeMask tag p => exact ⟨_, rfl, execution_moves h .setNoticeMask rfl⟩
  | openService tag p => exact ⟨_, rfl, execution_moves h .openService rfl⟩
  | closeService tag p => exact ⟨_, rfl, execution_moves h .closeService rfl⟩
  | stageChannel tag p => exact ⟨_, rfl, execution_moves h .stageChannel rfl⟩
  | stageGlobals tag p => exact ⟨_, rfl, execution_moves h .stageGlobals rfl⟩
  | readConfig tag p => exact ⟨_, rfl, execution_moves h .readConfig rfl⟩
  | applyConfig tag p => exact ⟨_, rfl, execution_moves h .applyConfig rfl⟩
  | discardStaged tag p => exact ⟨_, rfl, execution_moves h .discardStaged rfl⟩
  | loadTotals tag p => exact ⟨_, rfl, execution_moves h .loadTotals rfl⟩
  | restart tag p => exact ⟨_, rfl, execution_moves h .restart rfl⟩

theorem exec_moves_of_next {L : Licence → Prop} {s t : State} {c : Instr} (h : Permits L s c) (hexec : exec c s = .next t) :
    Moves L s t := by
  obtain ⟨u, hu, hmoves⟩ := exec_moves h
  rw [hu] at hexec
  exact Host.Outcome.next.inj hexec ▸ hmoves

end Sys2Proof.Machine
end

section

-- One theorem at a time, as in the tests: many proofs elaborated at once each hold a thread's stack.
set_option Elab.async false

/-! What a move does to each block, and the laws of counts, notices, queue and link it keeps (laws 1, 4 and 5). -/

namespace Sys2Proof.Machine

open State

/-! ## FLUSH entry, block by block -/

namespace State

variable (s : State)

theorem setPower_captureLive_changes {s t : State} {x : Power} (h : t = (s.setPower x).captureLive) :
    Changes [.power, .capture] s t := by
  rw [h]
  exact ((setPower_changes s x).mono (by decide)).trans ((captureLive_changes _).mono (by decide))

/-- FLUSH entry up to the scheduler: the device state, the FROZEN capture unit, the drains (R122). -/
def flushDrained (s : State) : State :=
  (s.setPower { s.power with device := .flush, replyWait := false, resume := none, notWritten := 0 }).captureFreeze.drainCountsAll

/-- FLUSH entry's scheduler: the flush list is the channels dirty after the drains (R122). -/
def flushListed (s : State) : State :=
  s.flushDrained.setSched
    { s.flushDrained.sched with queue := [], headWaiting := false, flushList := s.flushDrained.dirtyChannels }

theorem enterFlush_eq : s.enterFlush = s.flushListed.cutHolder.abortErase.cancelAll.closeSession (some .flush) := by
  simp only [enterFlush, flushListed, flushDrained]

theorem enterFlush_sched : s.enterFlush.sched = s.flushListed.sched := by
  rw [enterFlush_eq, (closeSession_changes ..).sched_eq, (cancelAll_changes _).sched_eq, (abortErase_changes _).sched_eq,
    (cutHolder_changes _).sched_eq]

theorem enterFlush_queue : s.enterFlush.sched.queue = [] := by rw [enterFlush_sched]; rfl

end State

/-! ## Block by block -/

namespace Move

variable {L : Licence → Prop} {s t : State}

/-- A move takes entries out of the commit queue or brings one cause to it. -/
theorem queue (h : Move L s t) : t.sched.queue.Sublist s.sched.queue ∨
    ∃ c k w, t.sched.queue = mergeCause s.sched.queue c k w ∧ (k ≠ .flush ∧ k ≠ .compact) ∧
      (s.power.device = .run ∨ L .offRun) := by
  cases h with
  | sched _ hq => exact .inl hq
  | deliver _ c k w hq hk hrun => exact .inr ⟨c, k, w, hq, hk, hrun⟩
  | start _ k h => subst h; exact .inl (List.nil_sublist _)
  | flush _ u _ h =>
    refine .inl ?_
    rw [h, enterFlush_queue]
    exact List.nil_sublist _
  | toRun h | launch _ h => exact .inl ((setPower_captureLive_changes h).sched_eq ▸ .refl _)
  | notice h => exact .inl (h.changes.sched_eq ▸ .refl _)
  | link h => exact .inl (h.changes.sched_eq ▸ .refl _)
  | rest h | capture h | accum h | store h | config h | service h | closes h | opens h | power h | retain h | freeze _ h
  | device _ h => exact .inl (h.sched_eq ▸ .refl _)

theorem delta (loose : L .loose) (h : Move L s t) (c : Channel) :
    (t.accum.accounts.get c).delta ≤ (s.accum.accounts.get c).delta ∨ (t.accum.accounts.get c).delta ≤ 2 ^ 48 - 1 := by
  cases h with
  | accum _ hd => exact hd c
  | start _ k h =>
    subst h
    refine .inr ?_
    show ((PerChannel.all Account.zero).get c).delta ≤ _
    simp [Account.zero]
  | flush hl => exact absurd loose hl
  | toRun h | launch _ h => exact .inl (by rw [(setPower_captureLive_changes h).accum_eq])
  | notice h => exact .inl (by rw [h.changes.accum_eq])
  | link h => exact .inl (by rw [h.changes.accum_eq])
  | rest h | capture h | sched h | deliver h | store h | config h | service h | closes h | opens h | power h | retain h
  | freeze _ h | device _ h => exact .inl (by rw [h.accum_eq])

/-- The pending and lost-edge counts after a move. -/
theorem counts (loose : L .loose) (h : Move L s t) (c : Channel) :
    ((t.capture.channels.get c).pending ≤ (s.capture.channels.get c).pending ∨
      (t.capture.channels.get c).pending ≤ 255) ∧
    ((t.capture.channels.get c).lost ≤ (s.capture.channels.get c).lost ∨
      (t.capture.channels.get c).lost ≤ 65535 ∨ (t.capture.channels.get c).lost = (s.store.map.get c).lost) := by
  have hsame : t.capture.channels = s.capture.channels →
      ((t.capture.channels.get c).pending ≤ (s.capture.channels.get c).pending ∨
        (t.capture.channels.get c).pending ≤ 255) ∧
      ((t.capture.channels.get c).lost ≤ (s.capture.channels.get c).lost ∨
        (t.capture.channels.get c).lost ≤ 65535 ∨ (t.capture.channels.get c).lost = (s.store.map.get c).lost) := fun h =>
    ⟨.inl (le_of_eq (by rw [h])), .inl (le_of_eq (by rw [h]))⟩
  cases h with
  | capture _ _ hpending hlost => exact ⟨(hpending c).imp_right And.right, hlost c⟩
  | start _ k h =>
    subst h
    have hget : (s.startEntry k).capture.channels.get c =
        CaptureChannel.restarted (s.capture.channels.get c) := PerChannel.get_ofFn _ c
    rw [hget]
    exact ⟨.inr (Nat.zero_le _), .inr (.inl (Nat.zero_le _))⟩
  | flush hl => exact absurd loose hl
  | toRun h | launch _ h =>
    have hget : t.capture.channels.get c = CaptureChannel.reinitialised (s.capture.channels.get c) := by
      rw [h]
      exact PerChannel.get_ofFn _ c
    rw [hget]
    exact ⟨.inl le_rfl, .inl le_rfl⟩
  | freeze _ _ hc => exact hsame hc
  | notice h => exact hsame (by rw [h.changes.capture_eq])
  | link h => exact hsame (by rw [h.changes.capture_eq])
  | rest h | accum h | sched h | deliver h | store h | config h | service h | closes h | opens h | power h | retain h
  | device _ h => exact hsame (by rw [h.capture_eq])

theorem snapshots_of_eq (h : t.store = s.store) :
    (∀ c, (t.store.map.get c).lost ≤ (s.store.map.get c).lost ∨ (t.store.map.get c).lost ≤ 65535 ∨
      ∃ i, s.commitJob = some i ∧ (t.store.map.get c).lost = i.snapshot.lost) ∧
    ∀ j, t.commitJob = some j → j.snapshot.lost ≤ (s.capture.channels.get j.channel).lost ∨
      ∃ i, s.commitJob = some i ∧ j.snapshot = i.snapshot :=
  ⟨fun c => .inl (le_of_eq (by rw [h])), fun j hj => .inr ⟨j, by rw [← hj]; simp only [commitJob, h], rfl⟩⟩

/-- The lost-edge counts of the commit map and of a commit job's snapshot after a move. -/
theorem snapshots (loose : L .loose) (h : Move L s t) :
    (∀ c, (t.store.map.get c).lost ≤ (s.store.map.get c).lost ∨ (t.store.map.get c).lost ≤ 65535 ∨
      ∃ i, s.commitJob = some i ∧ (t.store.map.get c).lost = i.snapshot.lost) ∧
    ∀ j, t.commitJob = some j → j.snapshot.lost ≤ (s.capture.channels.get j.channel).lost ∨
      ∃ i, s.commitJob = some i ∧ j.snapshot = i.snapshot := by
  cases h with
  | store _ _ hjob hmap => exact ⟨hmap, hjob⟩
  | start _ k h =>
    subst h
    refine ⟨fun c => .inr (.inl ?_), fun j hj => absurd hj (by simp [commitJob, startEntry, Store.initial])⟩
    show ((PerChannel.all MapEntry.none).get c).lost ≤ _
    simp [MapEntry.none]
  | flush hl => exact absurd loose hl
  | toRun h | launch _ h => exact snapshots_of_eq (setPower_captureLive_changes h).store_eq
  | notice h => exact snapshots_of_eq h.changes.store_eq
  | link h => exact snapshots_of_eq h.changes.store_eq
  | rest h | capture h | accum h | sched h | deliver h | config h | service h | closes h | opens h | power h | retain h
  | freeze _ h | device _ h => exact snapshots_of_eq h.store_eq

/-- The notice unit after a move: as before, after a move of its own, or as a start sets it. -/
theorem notices (loose : L .loose) (h : Move L s t) :
    t.notices = s.notices ∨ NoticeMove L s t ∨ L .start ∧ t.notices = NoticeUnit.initial := by
  cases h with
  | notice h => exact .inr (.inl h)
  | start hl k h => subst h; exact .inr (.inr ⟨hl, rfl⟩)
  | flush hl => exact absurd loose hl
  | toRun h | launch _ h => exact .inl (setPower_captureLive_changes h).notices_eq
  | link h => exact .inl h.changes.notices_eq
  | rest h | capture h | accum h | sched h | deliver h | store h | config h | service h | closes h | opens h | power h
  | retain h | freeze _ h | device _ h => exact .inl h.notices_eq

/-- The host link after a move: as before, after a move of its own, or as a start sets it. -/
theorem hostLink (loose : L .loose) (h : Move L s t) :
    t.link = s.link ∨ LinkMove L s t ∨ L .start ∧ t.link = HostLink.initial s.link.lineRate := by
  cases h with
  | link h => exact .inr (.inl h)
  | start hl k h => subst h; exact .inr (.inr ⟨hl, rfl⟩)
  | flush hl => exact absurd loose hl
  | toRun h | launch _ h => exact .inl (setPower_captureLive_changes h).link_eq
  | notice h => exact .inl h.changes.link_eq
  | rest h | capture h | accum h | sched h | deliver h | store h | config h | service h | closes h | opens h | power h
  | retain h | freeze _ h | device _ h => exact .inl h.link_eq

end Move

/-! ## Notices -/

/-- The record of a kind after a move of the notice unit. -/
theorem NoticeMove.record {L : Licence → Prop} {s t : State} (h : NoticeMove L s t) (k : NoticeKind) :
    t.notices.records.get k = s.notices.records.get k ∨ t.notices.records.get k = NoticeRecord.clear ∨
      ∃ d, t.notices.records.get k = (s.notices.records.get k).raised k d := by
  cases h with
  | raise j d h =>
    subst h
    simp only [State.raise, setNotices_notices, NoticeTable.get_set]
    split
    · next hk => subst hk; exact .inr (.inr ⟨d, rfl⟩)
    · exact .inl rfl
  | fetch _ j h =>
    subst h
    simp only [takeNotice, setNotices_notices, NoticeTable.get_set]
    split
    · exact .inr (.inl rfl)
    · exact .inl rfl
  | ack _ h => subst h; exact .inl rfl
  | mask _ m _ h => subst h; exact .inl rfl

/-- A notice record is pending exactly when it counts, and clear otherwise, and its count is within its maximum. -/
structure RecordLaw (r : NoticeRecord) : Prop where
  pending : r.pending = true ↔ 1 ≤ r.count
  clear : r.pending = false → r = NoticeRecord.clear

theorem RecordLaw.raised {r : NoticeRecord} (k : NoticeKind) (d : NoticeDetail) : RecordLaw (r.raised k d) := by
  refine ⟨?_, fun h => by simp [NoticeRecord.raised] at h⟩
  simp only [NoticeRecord.raised, Config.maxNoticeCount, true_iff]
  omega

theorem RecordLaw.clearRecord : RecordLaw NoticeRecord.clear := ⟨by simp [NoticeRecord.clear], fun _ => rfl⟩

theorem NoticeUnit.initial_record (k : NoticeKind) : NoticeUnit.initial.records.get k = NoticeRecord.clear := by
  cases k <;> rfl

theorem NoticeMove.mask_kept {L : Licence → Prop} {s t : State} (h : NoticeMove L s t)
    (hs : s.notices.mask.getLsbD 0 = false) : t.notices.mask.getLsbD 0 = false := by
  cases h with
  | mask _ m hm h => subst h; exact hm
  | raise _ _ h => subst h; exact hs
  | fetch _ _ h => subst h; exact hs
  | ack _ h => subst h; exact hs

/-- Everything is allowed: the laws of counts and notices confine no device state. -/
def anything : Licence → Prop := fun _ => True

theorem permits_anything (s : State) (c : Instr) : Permits anything s c where
  start _ := trivial
  launch _ := trivial
  counts _ := trivial
  live _ := trivial
  unstaged _ := trivial
  owed _ := trivial
  kinds k _ := by cases k <;> trivial
  offRun _ _ := .inr trivial
  scan _ _ _ _ := .inr trivial
  release _ := trivial
  resume _ := .inr trivial

theorem Move.keeps_noticeLaw {s t : State} (h : Move anything s t) (hs : NoticeLaw s) : NoticeLaw t := by
  obtain hsame | hmove | ⟨-, hinit⟩ := h.notices trivial
  · exact ⟨by rw [hsame]; exact hs.pending, by rw [hsame]; exact hs.clear, by rw [hsame]; exact hs.mask⟩
  · have hrecord : ∀ k, RecordLaw (t.notices.records.get k) := fun k => by
      obtain heq | heq | ⟨d, heq⟩ := hmove.record k <;> rw [heq]
      · exact ⟨hs.pending k, hs.clear k⟩
      · exact .clearRecord
      · exact .raised k d
    exact ⟨fun k => (hrecord k).pending, fun k => (hrecord k).clear, hmove.mask_kept hs.mask⟩
  · have hrecord : ∀ k, RecordLaw (t.notices.records.get k) := fun k => by
      rw [hinit, NoticeUnit.initial_record]
      exact .clearRecord
    exact ⟨fun k => (hrecord k).pending, fun k => (hrecord k).clear, by rw [hinit]; rfl⟩

/-! ## Counts -/

/-- The discarded-frame count after a move of the link. -/
theorem LinkMove.discarded_le {L : Licence → Prop} {s t : State} (h : LinkMove L s t) (hs : s.link.discarded ≤ 65535) :
    t.link.discarded ≤ 65535 := by
  cases h with
  | line _ h => obtain ⟨_, _, _, h⟩ := h; rw [h]; exact hs
  | discarded h => subst h; exact Nat.min_le_left ..
  | admitted _ h _ _ => subst h; exact hs
  | transmits h => subst h; unfold startTransmitter; split <;> exact hs
  | sent _ _ _ h => subst h; exact hs
  | jobState _ _ h => subst h; exact hs
  | endJob w a h =>
    subst h
    unfold State.endJob
    split
    · exact hs
    · unfold answer enqueueReply startTransmitter
      split <;> exact hs
  | cancel h => subst h; unfold State.cancelAll startTransmitter; dsimp only; split <;> exact hs
  | pop _ h => subst h; exact hs
  | reply _ r h => subst h; unfold enqueueReply startTransmitter; split <;> exact hs
  | accept _ _ _ _ h _ => subst h; exact hs

theorem Move.keeps_countLaw {s t : State} (h : Move anything s t) (hs : CountLaw s) : CountLaw t := by
  refine ⟨fun c => ?pending, fun c => ?lost, fun c => ?committed, fun j hj => ?snapshot, fun c => ?delta, fun k => ?notices,
    ?discarded⟩
  case pending =>
    have hbound := hs.pending c
    obtain hle | hle := (h.counts trivial c).1 <;> omega
  case lost =>
    have hbound := hs.lost c
    have hmap := hs.committed c
    obtain hle | hle | heq := (h.counts trivial c).2 <;> omega
  case committed =>
    have hbound := hs.committed c
    obtain hle | hle | ⟨i, hi, heq⟩ := (h.snapshots trivial).1 c
    · omega
    · exact hle
    · exact heq ▸ hs.snapshot i hi
  case snapshot =>
    obtain hle | ⟨i, hi, heq⟩ := (h.snapshots trivial).2 j hj
    · exact hle.trans (hs.lost _)
    · exact heq ▸ hs.snapshot i hi
  case delta =>
    have hbound := hs.delta c
    obtain hle | hle := h.delta trivial c <;> omega
  case notices =>
    obtain hsame | hmove | ⟨-, hinit⟩ := h.notices trivial
    · rw [hsame]; exact hs.notices k
    · obtain heq | heq | ⟨d, heq⟩ := hmove.record k <;> rw [heq]
      · exact hs.notices k
      · exact Nat.zero_le _
      · exact Nat.min_le_left ..
    · rw [hinit, NoticeUnit.initial_record]
      exact Nat.zero_le _
  case discarded =>
    obtain hsame | hmove | ⟨-, hinit⟩ := h.hostLink trivial
    · rw [hsame]; exact hs.discarded
    · exact hmove.discarded_le hs.discarded
    · rw [hinit]; exact Nat.zero_le _

/-- A law that every move keeps under the licences a command has is kept by the command's execution. -/
theorem Moves.exec_keeps {L : Licence → Prop} {P : State → Prop} {s t : State} {c : Instr}
    (hmove : ∀ {s t}, Move L s t → P s → P t) (hpermits : Permits L s c) (hexec : exec c s = .next t) (hs : P s) : P t :=
  (exec_moves_of_next hpermits hexec).keeps hmove hs

/-- Settles O5: no move takes a count past its maximum or leaves a notice record inconsistent. -/
theorem stepKeepsCountsAndNoticesInRange : Obligations.StepKeepsCountsAndNoticesInRange := by
  unfold Obligations.StepKeepsCountsAndNoticesInRange
  refine ⟨fun s t h hstep => ?counts, fun s t h hstep => ?notices⟩
  case counts =>
    obtain rfl | ⟨c, rest, hexec⟩ := step_cases hstep
    · exact h
    · exact Moves.exec_keeps Move.keeps_countLaw (permits_anything _ c) hexec
        (show CountLaw (s.setPending rest) from ⟨h.1, h.2, h.3, h.4, h.5, h.6, h.7⟩)
  case notices =>
    obtain rfl | ⟨c, rest, hexec⟩ := step_cases hstep
    · exact h
    · exact Moves.exec_keeps Move.keeps_noticeLaw (permits_anything _ c) hexec
        (show NoticeLaw (s.setPending rest) from ⟨h.1, h.2, h.3⟩)

/-! ## The commit queue -/

theorem mergeCause_channels (q : List QueueEntry) (c : Channel) (k : Cause) (w : Option JobSlot) :
    (mergeCause q c k w).map QueueEntry.channel =
      if c ∈ q.map QueueEntry.channel then q.map QueueEntry.channel else q.map QueueEntry.channel ++ [c] := by
  induction q with
  | nil => simp [mergeCause]
  | cons e q ih =>
    unfold mergeCause
    split
    · next he => simp [he]
    · next he =>
      rw [List.map_cons, ih]
      have hne : c ≠ e.channel := fun h => he h.symm
      simp only [List.map_cons, List.mem_cons, hne, false_or]
      split <;> simp

theorem Cause.higher_cases (a b : Cause) : a.higher b = a ∨ a.higher b = b := by
  unfold Cause.higher
  split
  · exact .inr rfl
  · exact .inl rfl

theorem mergeCause_cause {q : List QueueEntry} {c : Channel} {k : Cause} {w : Option JobSlot} {e : QueueEntry}
    (he : e ∈ mergeCause q c k w) : e.cause = k ∨ ∃ d ∈ q, e.cause = d.cause := by
  induction q with
  | nil =>
    simp only [mergeCause, List.mem_singleton] at he
    subst he
    exact .inl rfl
  | cons d q ih =>
    unfold mergeCause at he
    split at he
    · obtain rfl | hmem := List.mem_cons.1 he
      · obtain h | h := Cause.higher_cases d.cause k
        · exact .inr ⟨d, List.mem_cons_self .., h⟩
        · exact .inl h
      · exact .inr ⟨e, List.mem_cons_of_mem _ hmem, rfl⟩
    · obtain rfl | hmem := List.mem_cons.1 he
      · exact .inr ⟨e, List.mem_cons_self .., rfl⟩
      · obtain h | ⟨d', hd', h⟩ := ih hmem
        · exact .inl h
        · exact .inr ⟨d', List.mem_cons_of_mem _ hd', h⟩

/-- Eight channels have at most eight entries. -/
theorem length_le_eight {l : List Channel} (h : l.Nodup) : l.length ≤ 8 :=
  (h.subperm fun c _ => Channel.mem_all c).length_le

theorem Move.keeps_queueLaw {s t : State} (h : Move anything s t) (hs : QueueLaw s) : QueueLaw t := by
  have hlength : (t.sched.queue.map QueueEntry.channel).Nodup → t.sched.queue.length ≤ 8 := fun hn => by
    simpa using length_le_eight hn
  obtain hsub | ⟨c, k, w, hq, hk, -⟩ := h.queue
  · have hsingle := hs.single.sublist (hsub.map QueueEntry.channel)
    exact ⟨hsingle, hlength hsingle, fun e he => hs.causes e (hsub.subset he)⟩
  · have hsingle : (t.sched.queue.map QueueEntry.channel).Nodup := by
      rw [hq, mergeCause_channels]
      split
      · exact hs.single
      · next hc => exact List.nodup_append.2 ⟨hs.single, List.nodup_singleton c, by
          rintro a ha b hb rfl
          exact hc (List.mem_singleton.1 hb ▸ ha)⟩
    refine ⟨hsingle, hlength hsingle, fun e he => ?_⟩
    obtain h | ⟨d, hd, h⟩ := mergeCause_cause (hq ▸ he) <;> rw [h]
    · exact hk
    · exact hs.causes d hd

end Sys2Proof.Machine
end

section

-- One theorem at a time, as in the tests: many proofs elaborated at once each hold a thread's stack.
set_option Elab.async false

/-! The link and the commit queue within their limits (laws 1 and 5): the credits in use, with those that are owed to a request
taken from its queue and not yet answered. -/

namespace Sys2Proof.Machine

open State

/-- Law 1 with `n` credits owed: they are in use, and stand for no request, job or reply. -/
structure LinkOwing (n : Nat) (s : State) : Prop where
  requests : s.link.requests.length ≤ 4
  slots : (s.link.jobs.map HostJob.slot).Nodup
  credits : s.link.credits = s.link.requests.length + s.link.jobs.length + s.link.replies.length + n
  limit : s.link.credits ≤ 6
  sending : s.link.transmitting = true → s.link.replies ≠ []

/-- Two entries hold at most two jobs. -/
theorem length_le_two {l : List JobSlot} (h : l.Nodup) : l.length ≤ 2 := by
  have hsub : l ⊆ [.first, .second] := fun w _ => by cases w <;> decide
  exact (h.subperm hsub).length_le

theorem linkLaw_iff {s : State} : LinkLaw s ↔ LinkOwing 0 s := by
  constructor
  · intro h
    exact ⟨h.requests, h.slots, h.credits, h.limit, h.sending⟩
  · intro h
    exact ⟨h.requests, by simpa using length_le_two h.slots, h.slots, h.credits, h.limit, h.sending⟩

namespace LinkOwing

variable {n : Nat} {s t : State} {bs : List Block}

theorem of_link (h : LinkOwing n s) (ht : t.link = s.link) : LinkOwing n t := by
  obtain ⟨h1, h2, h3, h4, h5⟩ := h
  exact ⟨by rwa [ht], by rwa [ht], by rwa [ht], by rwa [ht], by rwa [ht]⟩

theorem of_changes (h : LinkOwing n s) (hc : Changes bs s t) (hb : Block.link ∉ bs := by decide) : LinkOwing n t :=
  h.of_link (hc.link_eq hb)

theorem startTransmitter (h : LinkOwing n s) : LinkOwing n s.startTransmitter := by
  unfold State.startTransmitter
  split
  · next hstarts =>
    refine ⟨h.requests, h.slots, h.credits, h.limit, fun _ hnil => ?_⟩
    have hnil : s.link.replies = [] := hnil
    simp [hnil] at hstarts
  · exact h

/-- A reply takes one of the credits that are owed. -/
theorem enqueueReply (h : LinkOwing (n + 1) s) (r : Reply) : LinkOwing n (s.enqueueReply r) := by
  unfold State.enqueueReply
  refine startTransmitter ⟨h.requests, h.slots, ?_, h.limit, fun _ => by simp⟩
  simp only [setLink_link, List.length_append, List.length_singleton]
  have := h.credits
  omega

theorem reply (h : LinkOwing (n + 1) s) (k : RequestKind) (tag : Byte) (a : Answer) : LinkOwing n (s.reply k tag a) :=
  h.enqueueReply _

theorem refuse (h : LinkOwing (n + 1) s) (k : RequestKind) (tag : Byte) (x : Status) : LinkOwing n (s.refuse k tag x) :=
  h.enqueueReply _

/-- A host job takes one of the credits that are owed, in an entry that is free. -/
theorem acceptJob (h : LinkOwing (n + 1) s) {w : JobSlot} (hw : s.freeJobSlot? = some w) (tag : Byte) (j : JobState) :
    LinkOwing n (s.acceptJob w tag j) := by
  have hfree : ∀ x ∈ s.link.jobs, x.slot ≠ w := by
    unfold freeJobSlot? at hw
    split at hw
    · cases hw
      simp_all
    · split at hw
      · cases hw
        simp_all
      · cases hw
  unfold State.acceptJob
  refine ⟨h.requests, ?_, ?_, h.limit, h.sending⟩
  · simp only [setLink_link, List.map_append, List.map_cons, List.map_nil]
    refine List.nodup_append.2 ⟨h.slots, List.nodup_singleton w, ?_⟩
    rintro a ha b hb rfl
    obtain ⟨x, hx, hxa⟩ := List.mem_map.1 ha
    exact hfree x hx (hxa.trans (List.mem_singleton.1 hb))
  · simp only [setLink_link, List.length_append, List.length_singleton]
    have := h.credits
    omega

/-- A job that ends gives its credit to its reply. -/
theorem endJob (h : LinkOwing n s) (w : JobSlot) (a : Answer) : LinkOwing n (s.endJob w a) := by
  unfold State.endJob
  split
  · exact h
  · next j hj =>
    have hfind : s.link.jobs.find? (fun x => x.slot == w) = some j := hj
    have hslots : ((s.link.jobs.eraseP (fun x => x.slot == w)).map HostJob.slot).Nodup :=
      h.slots.sublist (List.Sublist.map _ List.eraseP_sublist)
    have hlength : (s.link.jobs.eraseP (fun x => x.slot == w)).length = s.link.jobs.length - 1 :=
      List.length_eraseP_of_mem (List.mem_of_find?_eq_some hfind) (List.find?_some (p := fun x : HostJob => x.slot == w) hfind)
    have hpos : 0 < s.link.jobs.length := List.length_pos_of_mem (List.mem_of_find?_eq_some hfind)
    have hcredits := h.credits
    have hfreed : LinkOwing (n + 1) (s.setLink { s.link with jobs := s.link.jobs.eraseP (fun x => x.slot == w) }) :=
      ⟨h.requests, hslots, by simp only [setLink_link, hlength]; omega, h.limit, h.sending⟩
    exact hfreed.enqueueReply _

theorem cancelAll (h : LinkOwing n s) : LinkOwing n s.cancelAll := by
  unfold State.cancelAll
  refine startTransmitter ⟨Nat.zero_le _, List.nodup_nil, ?_, h.limit, fun hsending => ?_⟩
  · simp only [setLink_link, List.length_append, List.length_map, List.length_nil]
    have := h.credits
    omega
  · have hreplies := h.sending hsending
    simp [hreplies]

theorem setJobState (h : LinkOwing n s) (w : JobSlot) (j : JobState) : LinkOwing n (s.setJobState w j) := by
  have hslots : ((s.link.jobs.map fun x => if x.slot = w then { x with state := j } else x).map HostJob.slot) =
      s.link.jobs.map HostJob.slot := by
    rw [List.map_map]
    refine List.map_congr_left fun x _ => ?_
    simp only [Function.comp_apply]
    split <;> rfl
  unfold State.setJobState
  refine ⟨h.requests, ?_, ?_, h.limit, h.sending⟩
  · simp only [setLink_link]
    rw [hslots]
    exact h.slots
  · simp only [setLink_link, List.length_map]
    exact h.credits

/-- A request taken from its queue leaves its credit owed. -/
theorem popRequest (h : LinkOwing n s) {r : Request} {rest : List Request} (hr : s.link.requests = r :: rest) :
    LinkOwing (n + 1) s.popRequest := by
  have hlength := h.requests
  have hcredits := h.credits
  unfold State.popRequest
  simp only [hr, List.length_cons] at hlength hcredits
  refine ⟨?_, h.slots, ?_, h.limit, h.sending⟩ <;> simp only [setLink_link, hr, List.tail_cons] <;> omega

end LinkOwing

theorem LinkMove.keeps_linkOwing {L : Licence → Prop} {s t : State} {n : Nat} (settled : ¬ L .owed) (h : LinkMove L s t)
    (hs : LinkOwing n s) : LinkOwing n t := by
  cases h with
  | line _ h =>
    obtain ⟨_, _, _, h⟩ := h
    exact ⟨by rw [h]; exact hs.requests, by rw [h]; exact hs.slots, by rw [h]; exact hs.credits, by rw [h]; exact hs.limit,
      by rw [h]; exact hs.sending⟩
  | discarded h => subst h; exact ⟨hs.requests, hs.slots, hs.credits, hs.limit, hs.sending⟩
  | admitted x h hroom =>
    subst h
    have hcredits := hs.credits
    refine ⟨?_, hs.slots, ?_, ?_, hs.sending⟩ <;>
      simp only [setLink_link, List.length_append, List.length_singleton] <;> omega
  | transmits h => subst h; exact hs.startTransmitter
  | sent r rest hreplies h =>
    subst h
    have hcredits := hs.credits
    have hlimit := hs.limit
    simp only [hreplies, List.length_cons] at hcredits
    refine ⟨hs.requests, hs.slots, ?_, ?_, nofun⟩ <;> simp only [setLink_link] <;> omega
  | jobState w j h => subst h; exact hs.setJobState w j
  | endJob w a h => subst h; exact hs.endJob w a
  | cancel h => subst h; exact hs.cancelAll
  | pop hl => exact absurd hl settled
  | reply hl => exact absurd hl settled
  | accept hl => exact absurd hl settled

/-- Everything is allowed but to leave a credit owed. -/
abbrev settled : Licence → Prop := (· ≠ .owed)

/-- Nothing is owed, and START is not entered. -/
abbrev settledInRun : Licence → Prop := fun l => l ≠ .owed ∧ l ≠ .start

theorem Move.keeps_linkOwing {L : Licence → Prop} {s t : State} {n : Nat} (loose : L .loose) (settled : ¬ L .owed)
    (start : L .start → n = 0) (h : Move L s t) (hs : LinkOwing n s) : LinkOwing n t := by
  obtain hsame | hmove | ⟨hl, hinit⟩ := h.hostLink loose
  · exact hs.of_link hsame
  · exact hmove.keeps_linkOwing settled hs
  · have hn := start hl
    subst hn
    rw [← linkLaw_iff]
    exact ⟨by simp [hinit, HostLink.initial], by simp [hinit, HostLink.initial], by simp [hinit, HostLink.initial],
      by simp [hinit, HostLink.initial], by simp [hinit, HostLink.initial], by simp [hinit, HostLink.initial]⟩

theorem Moves.keeps_linkLaw {s t : State} (h : Moves settled s t) (hs : LinkOwing 0 s) : LinkOwing 0 t :=
  h.keeps (Move.keeps_linkOwing (by decide) (by decide) fun _ => rfl) hs

theorem Moves.keeps_linkOwing {s t : State} {n : Nat} (h : Moves settledInRun s t) (hs : LinkOwing n s) : LinkOwing n t :=
  h.keeps (Move.keeps_linkOwing (by decide) (by decide)
    fun h => absurd rfl h.2) hs

/-! ## The executor -/

namespace State

variable {s : State} {n : Nat}

theorem arbiter_linkOwing (run : s.power.device = .run) (hs : LinkOwing n s) : LinkOwing n s.arbiter :=
  (s.arbiter_run_moves run).keeps_linkOwing hs

theorem doReadSlot_link (run : s.power.device = .run) (hs : LinkOwing 1 s) (tag : Byte) (p : List Byte) :
    LinkOwing 0 (s.doReadSlot tag p) := by
  unfold doReadSlot
  split
  · split
    · next hw => exact arbiter_linkOwing run (hs.acceptJob hw ..)
    · exact hs.refuse ..
  · exact hs.refuse ..

theorem doSetTariff_link (run : s.power.device = .run) (hs : LinkOwing 1 s) (tag : Byte) (p : List Byte) :
    LinkOwing 0 (s.doSetTariff tag p) := by
  unfold doSetTariff
  split
  · exact hs.refuse ..
  · split
    · exact hs.refuse ..
    · refine arbiter_linkOwing ?_ (LinkOwing.reply ((s.tariffSwitch_moves (.inl run) _).keeps_linkOwing hs) ..)
      rw [(reply_changes ..).power_eq, (tariffSwitch_changes ..).power_eq, run]

theorem doCommit_link (run : s.power.device = .run) (hs : LinkOwing 1 s) (tag : Byte) (p : List Byte) :
    LinkOwing 0 (s.doCommit tag p) := by
  unfold doCommit
  dsimp only
  split
  · exact hs.refuse ..
  · split
    · exact hs.refuse ..
    · next w hw =>
      refine arbiter_linkOwing ?_ ((deliverAll_moves _ (.inl ?_) _ .request _ (by decide)).keeps_linkOwing
        (hs.acceptJob hw ..))
      · rw [(deliverAll_changes ..).power_eq, (acceptJob_changes ..).power_eq, run]
      · rw [(acceptJob_changes ..).power_eq, run]

theorem doLoadTotals_link (run : s.power.device = .run) (hs : LinkOwing 1 s) (tag : Byte) (p : List Byte) :
    LinkOwing 0 (s.doLoadTotals tag p) := by
  unfold doLoadTotals
  split
  · split
    · exact hs.refuse ..
    · next c _ =>
      split
      · exact hs.refuse ..
      · next w hw =>
        have haccepted := hs.acceptJob hw tag (.loadWait c)
        generalize hu : s.acceptJob w tag (.loadWait c) = u at haccepted
        have hurun : u.power.device = .run := by rw [← hu, (acceptJob_changes ..).power_eq, run]
        refine arbiter_linkOwing ?_ ((u.loadEffect_moves (.inl hurun) c _ w).keeps_linkOwing haccepted)
        rw [(loadEffect_changes ..).power_eq, hurun]
  · exact hs.refuse ..

theorem doApplyConfig_link (run : s.power.device = .run) (hs : LinkOwing 1 s) (tag : Byte) :
    LinkOwing 0 (s.doApplyConfig tag) := by
  unfold doApplyConfig
  split
  · split
    · exact hs.refuse ..
    · split
      · exact hs.refuse ..
      · next hw => exact arbiter_linkOwing run (hs.acceptJob hw ..)
  · exact hs.refuse ..

theorem doFetchNotice_link (hs : LinkOwing 1 s) (tag : Byte) (p : List Byte) : LinkOwing 0 (s.doFetchNotice tag p) := by
  unfold doFetchNotice
  split
  · exact hs.refuse ..
  · split
    · exact hs.reply ..
    · exact (hs.of_changes (takeNotice_changes ..)).reply ..

theorem doOpenService_link (hs : LinkOwing 1 s) (tag : Byte) : LinkOwing 0 (s.doOpenService tag) := by
  unfold doOpenService
  split
  · exact (hs.of_changes (setService_changes ..)).reply ..
  · split
    · exact ((hs.of_changes (setService_changes ..)).of_changes (setConfig_changes ..)).reply ..
    · exact hs.refuse ..

theorem doStageChannel_link (hs : LinkOwing 1 s) (tag : Byte) (p : List Byte) : LinkOwing 0 (s.doStageChannel tag p) := by
  unfold doStageChannel
  split
  · split
    · exact (hs.of_changes (setStaged_changes ..)).reply ..
    · exact hs.refuse ..
  · exact hs.refuse ..

theorem doStageGlobals_link (hs : LinkOwing 1 s) (tag : Byte) (p : List Byte) : LinkOwing 0 (s.doStageGlobals tag p) := by
  unfold doStageGlobals
  split
  · split
    · exact (hs.of_changes (setStaged_changes ..)).reply ..
    · exact hs.refuse ..
  · exact hs.refuse ..

theorem doDiscardStaged_link (hs : LinkOwing 1 s) (tag : Byte) : LinkOwing 0 (s.doDiscardStaged tag) := by
  unfold doDiscardStaged
  split
  · exact (hs.of_changes (setStaged_changes ..)).reply ..
  · exact hs.refuse ..

theorem doReadConfig_link (hs : LinkOwing 1 s) (tag : Byte) (p : List Byte) : LinkOwing 0 (s.doReadConfig tag p) := by
  unfold doReadConfig
  dsimp only
  split
  · exact hs.reply ..
  · exact hs.refuse ..

/-- Whatever a request does, its credit goes to its reply or to its job. -/
theorem perform_link (run : s.power.device = .run) (hs : LinkOwing 1 s) (k : RequestKind) (tag : Byte) (p : List Byte) :
    LinkOwing 0 (s.perform k tag p) := by
  cases k with
  | ping => exact hs.reply ..
  | getStatus => exact hs.reply ..
  | readChannel => simp only [perform, doReadChannel]; split; exacts [hs.reply .., hs.refuse ..]
  | readCommitted => simp only [perform, doReadCommitted]; split; exacts [hs.reply .., hs.refuse ..]
  | getStoreMap => simp only [perform, doGetStoreMap]; split; exacts [hs.reply .., hs.refuse ..]
  | readSlot => exact doReadSlot_link run hs tag p
  | setTariff => exact doSetTariff_link run hs tag p
  | commit => exact doCommit_link run hs tag p
  | fetchNotice => exact doFetchNotice_link hs tag p
  | ackNotice => exact (hs.of_changes (setNotices_changes ..)).reply ..
  | setNoticeMask => exact (hs.of_changes (setNotices_changes ..)).reply ..
  | openService => exact doOpenService_link hs tag
  | closeService => exact (hs.of_changes (closeSession_changes ..)).reply ..
  | stageChannel => exact doStageChannel_link hs tag p
  | stageGlobals => exact doStageGlobals_link hs tag p
  | readConfig => exact doReadConfig_link hs tag p
  | applyConfig => exact doApplyConfig_link run hs tag
  | discardStaged => exact doDiscardStaged_link hs tag
  | loadTotals => exact doLoadTotals_link run hs tag p
  | restart => exact hs.reply ..

theorem executeKnown_link (run : s.power.device = .run) (hs : LinkOwing 0 s) {r : Request} {rest : List Request}
    (hr : s.link.requests = r :: rest) (k : RequestKind) (tag : Byte) (p : List Byte) :
    LinkOwing 0 (s.executeKnown k tag p fun s => s.perform k tag p) := by
  unfold executeKnown
  split
  · exact perform_link (by exact run) (hs.popRequest hr) k tag p
  · exact (hs.popRequest hr).refuse ..

theorem executeUnknown_link (hs : LinkOwing 0 s) {r : Request} {rest : List Request} (hr : s.link.requests = r :: rest)
    (k tag : Byte) : LinkOwing 0 (s.executeUnknown k tag) :=
  (hs.popRequest hr).enqueueReply _

theorem executeHead_link (hs : LinkOwing 0 s) : LinkOwing 0 s.executeHead := by
  unfold executeHead
  split
  · next r rest hrun hr =>
    split
    · exact executeKnown_link hrun hs hr ..
    · exact executeUnknown_link hs hr ..
  · exact hs

theorem atHead_iff {r : Request} : s.atHead r = true ↔ s.power.device = .run ∧ ∃ rest, s.link.requests = r :: rest := by
  unfold atHead isRun
  cases s.link.requests <;> simp

theorem executeAs_link (hs : LinkOwing 0 s) (k : RequestKind) (tag : Byte) (p : List Byte) :
    LinkOwing 0 (s.executeAs k tag p fun s => s.perform k tag p) := by
  unfold executeAs
  split
  · next hhead =>
    obtain ⟨hrun, rest, hr⟩ := atHead_iff.1 hhead
    exact executeKnown_link hrun hs hr ..
  · exact hs

theorem executeUnknownRow_link (hs : LinkOwing 0 s) (k tag : Byte) (p : List Byte) :
    LinkOwing 0 (if s.atHead { kind := k, tag := tag, payload := p } && (RequestKind.ofCode? k).isNone then
      s.executeUnknown k tag else s) := by
  split
  · next hhead =>
    obtain ⟨-, rest, hr⟩ := atHead_iff.1 (Bool.and_eq_true_iff.1 hhead).1
    exact executeUnknown_link hs hr ..
  · exact hs

theorem tickEffects_link (hs : LinkOwing 0 s) : LinkOwing 0 s.tickEffects := by
  rw [tickEffects_eq]
  have hexecuted := executeHead_link (s.tickPrelude_moves.keeps_linkLaw hs)
  exact (resumeTick_moves _ (by decide) fun _ => .inr (by decide)).keeps_linkLaw hexecuted

end State

/-- Only a request's own row and a TICK leave a credit owed on their way. -/
theorem permits_settled (s : State) {c : Instr} (hrow : c.request? = none) (htick : c ≠ .tick) : Permits settled s c where
  start _ := by decide
  launch _ := by decide
  counts _ := by decide
  live _ := by decide
  unstaged _ := by decide
  owed h := by simp [hrow, htick] at h
  kinds k _ := by cases k <;> simp [licensed]
  offRun _ _ := .inr (by decide)
  scan _ _ _ _ := .inr (by decide)
  release _ := by decide
  resume _ := .inr (by decide)

theorem exec_keeps_linkOwing {s t : State} {c : Instr} (hs : LinkOwing 0 s) (hexec : exec c s = .next t) :
    LinkOwing 0 t := by
  by_cases hrow : c.request? = none
  case pos =>
    by_cases htick : c = .tick
    · subst htick
      cases hexec
      split
      · exact (arbiter_moves _ fun _ => .inr (by decide)).keeps_linkLaw (tickEffects_link hs)
      · exact hs
    · exact (exec_moves_of_next (permits_settled s hrow htick) hexec).keeps_linkLaw hs
  cases c with
  | ping tag p => cases hexec; exact executeAs_link hs .ping tag p
  | getStatus tag p => cases hexec; exact executeAs_link hs .getStatus tag p
  | readChannel tag p => cases hexec; exact executeAs_link hs .readChannel tag p
  | readCommitted tag p => cases hexec; exact executeAs_link hs .readCommitted tag p
  | getStoreMap tag p => cases hexec; exact executeAs_link hs .getStoreMap tag p
  | readSlot tag p => cases hexec; exact executeAs_link hs .readSlot tag p
  | setTariff tag p => cases hexec; exact executeAs_link hs .setTariff tag p
  | commit tag p => cases hexec; exact executeAs_link hs .commit tag p
  | fetchNotice tag p => cases hexec; exact executeAs_link hs .fetchNotice tag p
  | ackNotice tag p => cases hexec; exact executeAs_link hs .ackNotice tag p
  | setNoticeMask tag p => cases hexec; exact executeAs_link hs .setNoticeMask tag p
  | openService tag p => cases hexec; exact executeAs_link hs .openService tag p
  | closeService tag p => cases hexec; exact executeAs_link hs .closeService tag p
  | stageChannel tag p => cases hexec; exact executeAs_link hs .stageChannel tag p
  | stageGlobals tag p => cases hexec; exact executeAs_link hs .stageGlobals tag p
  | readConfig tag p => cases hexec; exact executeAs_link hs .readConfig tag p
  | applyConfig tag p => cases hexec; exact executeAs_link hs .applyConfig tag p
  | discardStaged tag p => cases hexec; exact executeAs_link hs .discardStaged tag p
  | loadTotals tag p => cases hexec; exact executeAs_link hs .loadTotals tag p
  | restart tag p => cases hexec; exact executeAs_link hs .restart tag p
  | unknownKind k tag p => cases hexec; exact executeUnknownRow_link hs k tag p
  | _ => exact absurd rfl hrow

/-- Settles O4: law 1 with no credit owed between happenings, and law 5 by the moves. -/
theorem stepKeepsTheQueuesWithinTheirLimits : Obligations.StepKeepsTheQueuesWithinTheirLimits := by
  unfold Obligations.StepKeepsTheQueuesWithinTheirLimits
  refine ⟨fun s t h hstep => ?link, fun s t h hstep => ?queue⟩
  case link =>
    obtain rfl | ⟨c, rest, hexec⟩ := step_cases hstep
    · exact h
    · rw [linkLaw_iff] at h ⊢
      exact exec_keeps_linkOwing (s := s.setPending rest) (h.of_link rfl) hexec
  case queue =>
    obtain rfl | ⟨c, rest, hexec⟩ := step_cases hstep
    · exact h
    · exact Moves.exec_keeps Move.keeps_queueLaw (permits_anything _ c) hexec
        (show QueueLaw (s.setPending rest) from ⟨h.1, h.2, h.3⟩)

end Sys2Proof.Machine
end

section

-- One theorem at a time, as in the tests: many proofs elaborated at once each hold a thread's stack.
set_option Elab.async false

/-! What a drain, and a drain of every channel, makes of the counts and of the totals (R11, R19 to R24, R26). -/

namespace Sys2Proof.Machine

open State

namespace State

variable (s : State)

/-- A channel's totals after its drain. -/
def drainedAccount (c : Channel) : Account :=
  Account.drained (s.accum.accounts.get c) s.accum.tariff (s.capture.channels.get c).pending (s.liveChannel c).weight

theorem drainCounts_capture (c : Channel) : (s.drainCounts c).capture =
    { s.capture with channels := s.capture.channels.set c { s.capture.channels.get c with pending := 0 } } := by
  unfold drainCounts
  dsimp only
  split
  · rw [(raise_changes ..).capture_eq]; rfl
  · rfl

theorem drainCounts_accum (c : Channel) : (s.drainCounts c).accum =
    { s.accum with accounts := s.accum.accounts.set c (s.drainedAccount c) } := by
  unfold drainCounts
  dsimp only
  split
  · rw [(raise_changes ..).accum_eq]; rfl
  · rfl

theorem drainCounts_notices (c : Channel) : (s.drainCounts c).notices =
    if 2 ^ 40 ≤ ((s.accum.accounts.get c).buckets.get s.accum.tariff).toNat +
        (s.capture.channels.get c).pending * (s.liveChannel c).weight then
      (s.raise .rollover (.rollover (channelBit c) (tariffBit s.accum.tariff))).notices
    else s.notices := by
  unfold drainCounts
  dsimp only
  split
  · next h => rw [if_pos (by exact of_decide_eq_true h)]; rfl
  · next h => rw [if_neg (by exact fun hwraps => h (decide_eq_true hwraps))]; rfl

theorem drainCounts_account (c : Channel) : (s.drainCounts c).accum.accounts.get c = s.drainedAccount c := by
  rw [drainCounts_accum, PerChannel.get_set_self]

end State

/-- The counts of some channels are taken to their totals, and the threshold step at most follows. -/
structure CountsDrained (cs : List Channel) (s t : State) : Prop where
  state : t.capture.state = s.capture.state
  tariff : t.accum.tariff = s.accum.tariff
  tsel : t.accum.tsel = s.accum.tsel
  config : t.config = s.config
  channel : ∀ c, t.capture.channels.get c =
    if c ∈ cs then { s.capture.channels.get c with pending := 0 } else s.capture.channels.get c
  account : ∀ c, t.accum.accounts.get c = if c ∈ cs then s.drainedAccount c else s.accum.accounts.get c

namespace CountsDrained

variable {s t u : State}

theorem refl (s : State) : CountsDrained [] s s where
  state := rfl
  tariff := rfl
  tsel := rfl
  config := rfl
  channel c := by simp
  account c := by simp

/-- Channels drained one after another, each once. -/
theorem trans {cs ds : List Channel} (h : CountsDrained cs s t) (h' : CountsDrained ds t u) (hd : ∀ c ∈ cs, c ∉ ds) :
    CountsDrained (cs ++ ds) s u where
  state := h'.state.trans h.state
  tariff := h'.tariff.trans h.tariff
  tsel := h'.tsel.trans h.tsel
  config := h'.config.trans h.config
  channel c := by
    rw [h'.channel, h.channel]
    by_cases hc : c ∈ cs <;> by_cases hcd : c ∈ ds <;> simp [hc, hcd]
  account c := by
    rw [h'.account, h.account]
    by_cases hc : c ∈ cs
    · simp [hc, hd c hc]
    · simp [hc, drainedAccount, liveChannel, h.channel, h.account, h.tariff, h.config]

theorem foldl {f : State → Channel → State} (hf : ∀ x c, CountsDrained [c] x (f x c)) :
    ∀ (cs : List Channel) (s : State), cs.Nodup → CountsDrained cs s (cs.foldl f s)
  | [], s, _ => refl s
  | c :: cs, s, h => by
    obtain ⟨hc, hcs⟩ := List.nodup_cons.1 h
    exact (hf s c).trans (foldl hf cs (f s c) hcs) (by simpa using hc)

end CountsDrained

namespace State

variable (s : State)

theorem drainCounts_drained (c : Channel) : CountsDrained [c] s (s.drainCounts c) where
  state := by rw [drainCounts_capture]
  tariff := by rw [drainCounts_accum]
  tsel := by rw [drainCounts_accum]
  config := (drainCounts_changes s c).config_eq
  channel d := by
    rw [drainCounts_capture, PerChannel.get_set]
    by_cases h : d = c
    · subst h; simp
    · simp [h]
  account d := by
    rw [drainCounts_accum, PerChannel.get_set]
    by_cases h : d = c
    · subst h; simp
    · simp [h]

theorem drain_drained (c : Channel) : CountsDrained [c] s (s.drain c) := by
  have h := s.drainCounts_drained c
  have hstep := thresholdStep_changes (s.drainCounts c) c
  constructor
  case config => exact hstep.config_eq.trans h.config
  all_goals unfold drain
  case state => rw [hstep.capture_eq, h.state]
  case tariff => rw [hstep.accum_eq, h.tariff]
  case tsel => rw [hstep.accum_eq, h.tsel]
  case channel => rw [hstep.capture_eq]; exact h.channel
  case account => rw [hstep.accum_eq]; exact h.account

theorem drainAll_drained : CountsDrained Channel.all s s.drainAll :=
  CountsDrained.foldl drain_drained _ s (by decide)

theorem drainCountsAll_drained : CountsDrained Channel.all s s.drainCountsAll :=
  CountsDrained.foldl drainCounts_drained _ s (by decide)

end State

/-- Every channel drained: its count is 0, its totals those of its drain. -/
theorem CountsDrained.of_all {s t : State} (h : CountsDrained Channel.all s t) (c : Channel) :
    t.capture.channels.get c = { s.capture.channels.get c with pending := 0 } ∧
      t.accum.accounts.get c = (s.drainCounts c).accum.accounts.get c := by
  rw [h.channel, h.account, if_pos (Channel.mem_all c), if_pos (Channel.mem_all c), drainCounts_account]
  exact ⟨rfl, rfl⟩

/-- A drain's totals in numbers: the bucket modulo 2^40, the delta up to its maximum, the version (R17, R19 to R22). -/
theorem Account.drained_numbers (a : Account) (t : Tariff) (pending weight : Nat) :
    ((Account.drained a t pending weight).buckets.get t).toNat = ((a.buckets.get t).toNat + pending * weight) % 2 ^ 40 ∧
    (∀ x, x ≠ t → (Account.drained a t pending weight).buckets.get x = a.buckets.get x) ∧
    (Account.drained a t pending weight).delta = min (2 ^ 48 - 1) (a.delta + pending * weight) ∧
    (Account.drained a t pending weight).version = if pending = 0 then a.version else a.version + 1 := by
  refine ⟨?_, fun x hx => ?_, rfl, rfl⟩
  · simp only [Account.drained, PerTariff.get_set_self, BitVec.toNat_add, BitVec.toNat_ofNat, Nat.add_mod_mod]
  · simp only [Account.drained, PerTariff.get_set, if_neg hx]

/-- Settles O17: a drain takes the whole count, weighted, to the active bucket and the delta. -/
theorem drainMovesThePendingCountToTheActiveBucket : Obligations.DrainMovesThePendingCountToTheActiveBucket := by
  unfold Obligations.DrainMovesThePendingCountToTheActiveBucket
  intro s c
  dsimp only
  have h := s.drainCounts_drained c
  have hchannel := h.channel c
  rw [if_pos (List.mem_singleton_self c)] at hchannel
  obtain ⟨hbucket, hothers, hdelta, hversion⟩ := Account.drained_numbers (s.accum.accounts.get c) s.accum.tariff
    (s.capture.channels.get c).pending (s.liveChannel c).weight
  rw [drainCounts_account]
  refine ⟨h.state, hchannel, fun d hd => ?_, h.tariff, h.tsel, hbucket, hothers, hdelta, hversion, fun hfits => ?_,
    fun hwraps => ?_, drainCounts_changes s c⟩
  · rw [h.channel, h.account]
    simp [hd]
  · rw [drainCounts_notices, if_neg (by exact Nat.not_le.2 hfits)]
  · rw [drainCounts_notices, if_pos (by exact hwraps)]

end Sys2Proof.Machine
end

section

-- One theorem at a time, as in the tests: many proofs elaborated at once each hold a thread's stack.
set_option Elab.async false

/-! What is confined to RUN and to an OPEN session (laws 10 and 12), and the power monitor. -/

namespace Sys2Proof.Machine

open State

/-! ## FLUSH entry -/

namespace State

variable (s : State)

theorem closeSession_closed (x : Option CloseReason) : (s.closeSession x).service.session = .closed := by
  unfold closeSession
  split
  · next h => exact h
  · dsimp only
    split
    · rw [(raise_changes ..).service_eq]; rfl
    · rfl

theorem startTransmitter_link : s.startTransmitter.link =
    { s.link with transmitting := s.startTransmitter.link.transmitting } := by
  unfold startTransmitter
  split <;> rfl

theorem cancelAll_requests : s.cancelAll.link.requests = [] := by
  unfold cancelAll
  rw [startTransmitter_link]
  rfl

theorem cancelAll_jobs : s.cancelAll.link.jobs = [] := by
  unfold cancelAll
  rw [startTransmitter_link]
  rfl

theorem enterFlush_requests : s.enterFlush.link.requests = [] := by
  rw [enterFlush_eq, (closeSession_changes ..).link_eq, cancelAll_requests]

theorem enterFlush_jobs : s.enterFlush.link.jobs = [] := by
  rw [enterFlush_eq, (closeSession_changes ..).link_eq, cancelAll_jobs]

theorem enterFlush_session : s.enterFlush.service.session = .closed := by
  rw [enterFlush_eq]
  exact closeSession_closed ..

theorem enterFlush_capture : s.enterFlush.capture = s.flushDrained.capture := by
  rw [enterFlush_eq, (closeSession_changes ..).capture_eq, (cancelAll_changes _).capture_eq, (abortErase_changes _).capture_eq,
    (cutHolder_changes _).capture_eq]
  unfold flushListed
  rw [setSched_capture]

theorem flushDrained_drained : CountsDrained Channel.all
    (s.setPower { s.power with device := .flush, replyWait := false, resume := none, notWritten := 0 }).captureFreeze
    s.flushDrained := drainCountsAll_drained _

theorem enterFlush_frozen : s.enterFlush.capture.state = .frozen := by
  rw [enterFlush_capture, s.flushDrained_drained.state]
  rfl

theorem enterFlush_pending (c : Channel) : (s.enterFlush.capture.channels.get c).pending = 0 := by
  rw [enterFlush_capture, (s.flushDrained_drained.of_all c).1]

theorem cutHolder_op : s.cutHolder.store.op = s.store.op := by
  unfold cutHolder
  split
  · rfl
  · split
    · split <;> rfl
    · rfl

/-- An erase is aborted, any other operation stands (R60). -/
theorem abortErase_op : s.abortErase.store.op =
    s.store.op.map fun op => { op with aborting := if op.task = .ringErase ∨ op.task = .configErase then true else op.aborting } := by
  unfold abortErase
  split
  · next op hop =>
    split
    · next hx => simp [hop, hx, setOp]
    · next hx => simp [hop, hx, setOp]
    · next h1 h2 =>
      have hkept : ¬ (op.task = .ringErase ∨ op.task = .configErase) := fun h => h.elim h1 h2
      simp only [hop, Option.map_some, if_neg hkept]
  · next hop => simp [hop]

theorem enterFlush_op : s.enterFlush.store.op =
    s.store.op.map fun op => { op with aborting := if op.task = .ringErase ∨ op.task = .configErase then true else op.aborting } := by
  rw [enterFlush_eq, (closeSession_changes ..).store_eq, (cancelAll_changes _).store_eq, abortErase_op, cutHolder_op]
  unfold flushListed flushDrained
  rw [setSched_store, (drainCountsAll_changes _).store_eq]
  rfl

theorem captureLive_state : s.captureLive.capture.state = .live := rfl

end State

/-! ## Law 10 -/

/-- Everything is allowed but a live configuration that the staged one of a CLOSED session does not follow. -/
abbrev stagedFollows : Licence → Prop := (· ≠ .unstaged)

theorem StagedLaw.of_changes {bs : List Block} {s t : State} (hs : StagedLaw s) (h : Changes bs s t)
    (hservice : Block.service ∉ bs := by decide) (hconfig : Block.config ∉ bs := by decide) : StagedLaw t := by
  unfold StagedLaw
  rw [h.service_eq hservice, h.config_eq hconfig]
  exact hs

theorem Move.keeps_stagedLaw {s t : State} (h : Move stagedFollows s t) (hs : StagedLaw s) : StagedLaw t := by
  cases h with
  | config h _ hstaged =>
    intro hclosed
    rw [h.service_eq] at hclosed
    obtain heq | hopen | hl := hstaged
    · exact heq
    · exact absurd hclosed hopen
    · exact absurd rfl hl
  | service h hsession _ =>
    intro hclosed
    rw [h.config_eq]
    exact hs (hsession.1 hclosed)
  | closes _ _ hconfig => exact fun _ => by rw [hconfig]
  | opens _ _ hconfig => exact fun _ => by rw [hconfig]
  | start _ k h => subst h; exact fun _ => rfl
  | flush hl => exact absurd (by decide) hl
  | toRun h | launch _ h => exact hs.of_changes (setPower_captureLive_changes h)
  | notice h => exact hs.of_changes h.changes
  | link h => exact hs.of_changes h.changes
  | rest h | capture h | accum h | sched h | deliver h | store h | power h | retain h | freeze _ h | device _ h =>
    exact hs.of_changes h

/-- The swap lets the staged configuration of a CLOSED session follow (R103, R110). -/
theorem State.applySwap_staged (s : State) (image : Configuration) (p : ApplyProgress) :
    StagedLaw (s.applySwap image p) := by
  unfold applySwap
  dsimp only
  generalize ((((s.drainAll.setConfig _).recapture s.config.live).resourceTariff s.config.live).retimeInterval
    s.config.live).retimeIdle s.config.live = u
  unfold followStaged
  split
  · next h => exact fun hclosed => absurd hclosed (by simpa [sessionOpen] using h)
  · exact fun _ => rfl

theorem State.imageProgramEnd_staged {s : State} (hs : StagedLaw s) (o : ProgramOutcome) : StagedLaw (s.imageProgramEnd o) := by
  unfold imageProgramEnd
  split
  · exact hs
  · split
    · exact (s.applyFails_moves _ _).keeps Move.keeps_stagedLaw hs
    · exact hs.of_changes (setJobState_changes ..)
    · exact (s.applySwap_staged _ _).of_changes (endJob_changes ..)
    · exact hs

theorem permits_stagedFollows (s : State) {c : Instr} (h : c ≠ .imageProgramEnd .pass) : Permits stagedFollows s c where
  start _ := by decide
  launch _ := by decide
  counts _ := by decide
  live _ := by decide
  unstaged hc := absurd hc h
  owed _ := by decide
  kinds k _ := by cases k <;> simp [licensed]
  offRun hc := absurd hc h
  scan _ _ _ _ := .inr (by decide)
  release _ := by decide
  resume _ := .inr (by decide)

theorem exec_keeps_stagedLaw {c : Instr} {s t : State} (hexec : exec c s = .next t) (hs : StagedLaw s) : StagedLaw t := by
  by_cases hc : c = .imageProgramEnd .pass
  · subst hc
    cases hexec
    unfold atEnd
    split
    · split
      · refine (arbiter_moves _ fun _ => .inr (by decide)).keeps Move.keeps_stagedLaw (imageProgramEnd_staged ?_ _)
        exact hs.of_changes (endProgram_changes ..)
      · exact hs
    · exact hs
  · exact Moves.exec_keeps Move.keeps_stagedLaw (permits_stagedFollows s hc) hexec hs

/-! ## Law 12 -/

/-- What is confined to RUN stays with the device state. -/
abbrev runConfined : Licence → Prop := fun l => l ≠ .loose ∧ l ≠ .offRun

theorem RunLaw.of_changes {bs : List Block} {s t : State} (hs : RunLaw s) (h : Changes bs s t)
    (hb : Block.capture ∉ bs ∧ Block.power ∉ bs ∧ Block.sched ∉ bs ∧ Block.link ∉ bs ∧ Block.service ∉ bs := by decide) :
    RunLaw t := by
  obtain ⟨h1, h2, h3, h4, h5, h6⟩ := hs
  have hcapture := h.capture_eq hb.1
  have hpower := h.power_eq hb.2.1
  have hsched := h.sched_eq hb.2.2.1
  have hlink := h.link_eq hb.2.2.2.1
  have hservice := h.service_eq hb.2.2.2.2
  constructor <;> rw [hpower]
  · rw [hcapture]; exact h1
  · rw [hcapture]; exact h2
  · rw [hsched]; exact h3
  · rw [hlink]; exact h4
  · rw [hlink]; exact h5
  · rw [hservice]; exact h6

/-- A state in RUN meets law 12 when its capture unit is LIVE. -/
theorem RunLaw.of_run {t : State} (hdevice : t.power.device = .run) (hlive : t.capture.state = .live) : RunLaw t where
  live := by simp [hdevice, hlive]
  pending h := absurd hdevice h
  queue h := absurd hdevice h
  requests h := absurd hdevice h
  jobs h := absurd hdevice h
  session _ := hdevice

/-- Out of RUN no request and no job comes up. -/
theorem LinkMove.keeps_none {L : Licence → Prop} {s t : State} (h : LinkMove L s t) (hrun : s.power.device ≠ .run)
    (hrequests : s.link.requests = []) (hjobs : s.link.jobs = []) : t.link.requests = [] ∧ t.link.jobs = [] := by
  cases h with
  | line _ h =>
    obtain ⟨_, _, _, h⟩ := h
    rw [h]
    exact ⟨hrequests, hjobs⟩
  | discarded h => subst h; exact ⟨hrequests, hjobs⟩
  | admitted _ _ _ h => exact absurd h hrun
  | transmits h => subst h; rw [startTransmitter_link]; exact ⟨hrequests, hjobs⟩
  | sent _ _ _ h => subst h; exact ⟨hrequests, hjobs⟩
  | jobState w j h => subst h; exact ⟨hrequests, by simp [setJobState, hjobs]⟩
  | endJob w a h =>
    have hnone : s.endJob w a = s := by simp [State.endJob, job?, hjobs]
    rw [h, hnone]
    exact ⟨hrequests, hjobs⟩
  | cancel h => subst h; exact ⟨cancelAll_requests s, cancelAll_jobs s⟩
  | pop _ h => subst h; exact ⟨by simp [popRequest, hrequests], hjobs⟩
  | reply _ r h => subst h; unfold enqueueReply; rw [startTransmitter_link]; exact ⟨hrequests, hjobs⟩
  | accept _ _ _ _ _ h => exact absurd h hrun

theorem Move.keeps_runLaw {s t : State} (h : Move runConfined s t) (hs : RunLaw s) : RunLaw t := by
  cases h with
  | rest h | accum h | store h | config h => exact hs.of_changes h
  | notice h => exact hs.of_changes h.changes
  | capture h hstate hpending _ =>
    constructor <;> rw [h.power_eq]
    · rw [hstate]; exact hs.live
    · intro hdevice c
      obtain hle | ⟨hlive, -⟩ := hpending c
      · exact Nat.le_zero.1 (hle.trans (le_of_eq (hs.pending hdevice c)))
      · exact absurd (hs.live.1 hlive) hdevice
    · rw [h.sched_eq]; exact hs.queue
    · rw [h.link_eq]; exact hs.requests
    · rw [h.link_eq]; exact hs.jobs
    · rw [h.service_eq]; exact hs.session
  | sched h hqueue =>
    constructor <;> rw [h.power_eq]
    · rw [h.capture_eq]; exact hs.live
    · rw [h.capture_eq]; exact hs.pending
    · exact fun hdevice => List.sublist_nil.1 (hs.queue hdevice ▸ hqueue)
    · rw [h.link_eq]; exact hs.requests
    · rw [h.link_eq]; exact hs.jobs
    · rw [h.service_eq]; exact hs.session
  | deliver h c k w _ _ hrun =>
    have hdevice : s.power.device = .run := hrun.resolve_right fun hl => hl.2 rfl
    exact .of_run (by rw [h.power_eq, hdevice]) (by rw [h.capture_eq]; exact hs.live.2 hdevice)
  | service h hsession _ =>
    constructor <;> rw [h.power_eq]
    · rw [h.capture_eq]; exact hs.live
    · rw [h.capture_eq]; exact hs.pending
    · rw [h.sched_eq]; exact hs.queue
    · rw [h.link_eq]; exact hs.requests
    · rw [h.link_eq]; exact hs.jobs
    · exact fun hopen => hs.session (mt hsession.2 hopen)
  | closes h hsession _ =>
    constructor <;> rw [h.power_eq]
    · rw [h.capture_eq]; exact hs.live
    · rw [h.capture_eq]; exact hs.pending
    · rw [h.sched_eq]; exact hs.queue
    · rw [h.link_eq]; exact hs.requests
    · rw [h.link_eq]; exact hs.jobs
    · exact fun hopen => absurd hsession hopen
  | opens h _ _ hrun => exact .of_run (by rw [h.power_eq, hrun]) (by rw [h.capture_eq]; exact hs.live.2 hrun)
  | link h =>
    have hnone : s.power.device ≠ .run → t.link.requests = [] ∧ t.link.jobs = [] := fun hdevice =>
      h.keeps_none hdevice (hs.requests hdevice) (hs.jobs hdevice)
    constructor <;> rw [h.changes.power_eq]
    · rw [h.changes.capture_eq]; exact hs.live
    · rw [h.changes.capture_eq]; exact hs.pending
    · rw [h.changes.sched_eq]; exact hs.queue
    · exact fun hdevice => (hnone hdevice).1
    · exact fun hdevice => (hnone hdevice).2
    · rw [h.changes.service_eq]; exact hs.session
  | power h hdevice =>
    constructor <;> rw [hdevice]
    · rw [h.capture_eq]; exact hs.live
    · rw [h.capture_eq]; exact hs.pending
    · rw [h.sched_eq]; exact hs.queue
    · rw [h.link_eq]; exact hs.requests
    · rw [h.link_eq]; exact hs.jobs
    · rw [h.service_eq]; exact hs.session
  | toRun h | launch _ h => exact .of_run (by rw [h]; rfl) (by rw [h]; rfl)
  | flush _ u _ h _ _ =>
    have hdevice : t.power.device = .flush := by rw [h, enterFlush_power]
    have hsession : t.service.session = .closed := by rw [h, enterFlush_session]
    constructor
    · rw [hdevice, h, enterFlush_frozen]; simp
    · exact fun _ c => by rw [h, enterFlush_pending]
    · exact fun _ => by rw [h, enterFlush_queue]
    · exact fun _ => by rw [h, enterFlush_requests]
    · exact fun _ => by rw [h, enterFlush_jobs]
    · exact fun hopen => absurd hsession hopen
  | retain h hpower hflush =>
    have hrun : s.power.device ≠ .run := by simp [hflush]
    constructor
    · rw [h.capture_eq, hpower]
      simp [hs.live, hflush]
    · exact fun _ => by rw [h.capture_eq]; exact hs.pending hrun
    · exact fun _ => by rw [h.sched_eq]; exact hs.queue hrun
    · exact fun _ => by rw [h.link_eq]; exact hs.requests hrun
    · exact fun _ => by rw [h.link_eq]; exact hs.jobs hrun
    · exact fun hopen => absurd (hs.session (by rwa [← h.service_eq])) hrun
  | start _ k h =>
    subst h
    exact ⟨by simp [startEntry], fun _ c => by simp [startEntry, CaptureChannel.restarted], fun _ => rfl, fun _ => rfl,
      fun _ => rfl, fun h => absurd rfl h⟩
  | freeze hl | device hl => exact absurd rfl hl.1

/-- With law 12, a command confines what it does to RUN. -/
theorem permits_runConfined {s : State} (hs : RunLaw s) (c : Instr) : Permits runConfined s c where
  start _ := by decide
  launch _ := by decide
  counts _ := by decide
  live _ := by decide
  unstaged _ := by decide
  owed _ := by decide
  kinds k _ := by cases k <;> trivial
  offRun _ hjobs := .inl (not_not.1 fun hdevice => hjobs (hs.jobs hdevice))
  scan _ _ _ _ := .inr (by decide)
  release _ := by decide
  resume _ := .inr (by decide)

/-- Settles O6: the staged configuration follows the live one at every move but inside the apply swap, which makes it follow;
and no move takes what is confined to RUN out of it. -/
theorem stepKeepsCountingRequestsAndEditsConfined : Obligations.StepKeepsCountingRequestsAndEditsConfined := by
  unfold Obligations.StepKeepsCountingRequestsAndEditsConfined
  refine ⟨fun s t h hstep => ?staged, fun s t h hstep => ?run⟩
  case staged =>
    obtain rfl | ⟨c, rest, hexec⟩ := step_cases hstep
    · exact h
    · exact exec_keeps_stagedLaw hexec (show StagedLaw (s.setPending rest) from h)
  case run =>
    obtain rfl | ⟨c, rest, hexec⟩ := step_cases hstep
    · exact h
    · have hs : RunLaw (s.setPending rest) := ⟨h.1, h.2, h.3, h.4, h.5, h.6⟩
      exact Moves.exec_keeps Move.keeps_runLaw (permits_runConfined hs c) hexec hs

end Sys2Proof.Machine
end

section

-- One theorem at a time, as in the tests: many proofs elaborated at once each hold a thread's stack.
set_option Elab.async false

/-! The power monitor's law, and what only some commands can change: the live configuration (law 9), the armed flag and the
mask (R148, R149), erase counts (R94). -/

namespace Sys2Proof.Machine

open State

/-! ## The power monitor -/

/-- START's reads belong to START, and the items the moves ask about. -/
abbrev inOwnState : Licence → Prop := fun l => l ≠ .loose ∧ l ≠ .offStart

/-- The power monitor's law but for a part that is held. -/
structure MonitorLaw (s : State) : Prop where
  scanning : ∀ op, s.store.op = some op → op.task = .scanRead → s.power.device = .start
  replyWait : s.power.replyWait = true → s.power.device = .flush ∧ s.power.restartOwed = true
  running : s.power.device = .run → s.power.pfailFiltered = false
  resume : s.power.resume.isSome = true ↔ s.power.device = .retain ∧ s.power.pfailFiltered = false
  session : s.service.session ≠ .closed → s.power.device = .run ∧ s.service.svcFiltered = true

theorem PowerLaw.monitor {s : State} (h : PowerLaw s) : MonitorLaw s :=
  ⟨h.scanning, h.replyWait, h.running, h.resume, h.session⟩

theorem MonitorLaw.held {s : State} (h : MonitorLaw s)
    (hheld : s.alive = false → s.power.device = .start ∧ s.store.op = none) : PowerLaw s :=
  ⟨hheld, h.scanning, h.replyWait, h.running, h.resume, h.session⟩

theorem MonitorLaw.of_changes {bs : List Block} {s t : State} (hs : MonitorLaw s) (h : Changes bs s t)
    (hb : Block.power ∉ bs ∧ Block.store ∉ bs ∧ Block.service ∉ bs := by decide) : MonitorLaw t := by
  obtain ⟨h1, h2, h3, h4, h5⟩ := hs
  have hpower := h.power_eq hb.1
  have hstore := h.store_eq hb.2.1
  have hservice := h.service_eq hb.2.2
  constructor <;> rw [hpower]
  · rw [hstore]; exact h1
  · exact h2
  · exact h3
  · exact h4
  · rw [hservice]; exact h5

/-- A state of START with no timers running. -/
theorem MonitorLaw.of_start {t : State} (hdevice : t.power.device = .start) (hwait : t.power.replyWait = false)
    (hresume : t.power.resume = none) (hsession : t.service.session = .closed) : MonitorLaw t where
  scanning _ _ _ := hdevice
  replyWait h := by simp [hwait] at h
  running h := by simp [hdevice] at h
  resume := by simp [hresume, hdevice]
  session h := absurd hsession h

theorem Move.keeps_monitorLaw {s t : State} (h : Move inOwnState s t) (hs : MonitorLaw s) : MonitorLaw t := by
  cases h with
  | rest h | capture h | accum h | sched h | deliver h | config h => exact hs.of_changes h
  | notice h => exact hs.of_changes h.changes
  | link h => exact hs.of_changes h.changes
  | store h hop =>
    constructor <;> rw [h.power_eq]
    · intro op ht hx
      obtain hsame | hstart | hl := hop op ht hx
      · exact hs.scanning op hsame hx
      · exact hstart
      · exact absurd rfl hl.2
    · exact hs.replyWait
    · exact hs.running
    · exact hs.resume
    · rw [h.service_eq]; exact hs.session
  | service h hsession hsvc =>
    constructor <;> rw [h.power_eq]
    · rw [h.store_eq]; exact hs.scanning
    · exact hs.replyWait
    · exact hs.running
    · exact hs.resume
    · intro hopen
      obtain ⟨hrun, hactive⟩ := hs.session (mt hsession.2 hopen)
      obtain heq | hclosed | hactive' | hl := hsvc
      · exact ⟨hrun, heq ▸ hactive⟩
      · exact absurd hclosed hopen
      · exact ⟨hrun, hactive'⟩
      · exact absurd rfl hl.2
  | closes h hsession _ =>
    constructor <;> rw [h.power_eq]
    · rw [h.store_eq]; exact hs.scanning
    · exact hs.replyWait
    · exact hs.running
    · exact hs.resume
    · exact fun hopen => absurd hsession hopen
  | opens h hservice _ hrun hsvc =>
    constructor <;> rw [h.power_eq]
    · rw [h.store_eq]; exact hs.scanning
    · exact hs.replyWait
    · exact hs.running
    · exact hs.resume
    · exact fun _ => ⟨hrun, by rw [hservice]; exact hsvc⟩
  | power h hdevice hwait howed hresume hpfail =>
    constructor <;> rw [hdevice]
    · rw [h.store_eq]; exact hs.scanning
    · intro ht
      obtain heq | ⟨hflush, hrestart⟩ := hwait
      · obtain ⟨hflush, hrestart⟩ := hs.replyWait (heq ▸ ht)
        exact ⟨hflush, howed hrestart⟩
      · exact ⟨hflush, howed hrestart⟩
    · intro hrun
      obtain heq | hoff | hne | hl := hpfail
      · exact heq ▸ hs.running hrun
      · exact hoff
      · exact absurd hrun hne
      · exact absurd rfl hl.2
    · obtain ⟨heq, hsame | hne | hl⟩ | hiff := hresume
      · rw [heq, hsame]; exact hs.resume
      · rw [heq, hs.resume]
        simp [hne]
      · exact absurd rfl hl.2
      · exact hiff
    · rw [h.service_eq]; exact hs.session
  | toRun h hdevice howed hpfail =>
    have hoff : s.power.pfailFiltered = false := hpfail.resolve_right fun hl => hl.2 rfl
    subst h
    refine ⟨fun op hop hx => absurd (hs.scanning op hop hx) hdevice, fun hwait => ?_, fun _ => hoff, ?_, fun hopen => ?_⟩
    · simp [(hs.replyWait hwait).2] at howed
    · simp [captureLive]
    · exact ⟨rfl, (hs.session hopen).2⟩
  | launch _ h hpfail hstart =>
    have hoff : s.power.pfailFiltered = false := hpfail.resolve_right fun hl => hl.1 rfl
    obtain ⟨hdevice, hop⟩ := hstart.resolve_right fun hl => hl.2 rfl
    have hresume : s.power.resume.isSome = false := by
      rw [Bool.eq_false_iff, ne_eq, hs.resume]
      simp [hdevice]
    subst h
    refine ⟨fun op hsome => ?_, fun hwait => ?_, fun _ => hoff, ?_, fun hopen => ⟨rfl, (hs.session hopen).2⟩⟩
    · rw [(captureLive_changes _).store_eq, setPower_store, hop] at hsome
      cases hsome
    · have hflush := (hs.replyWait hwait).1
      simp [hdevice] at hflush
    · rw [(captureLive_changes _).power_eq, setPower_power]
      simp [hresume]
  | flush _ u hu h _ hfrom =>
    have hpower : t.power =
        { u.power with device := .flush, replyWait := false, resume := none, notWritten := 0 } := by rw [h, enterFlush_power]
    have hsession : t.service.session = .closed := by rw [h, enterFlush_session]
    refine ⟨fun op hop hx => ?_, fun hwait => ?_, fun hrun => ?_, ?_, fun hopen => absurd hsession hopen⟩
    · rw [h, enterFlush_op, hu.store_eq] at hop
      obtain ⟨op', hsome, rfl⟩ := Option.map_eq_some_iff.1 hop
      obtain hrun | ⟨-, hnone | hl⟩ := hfrom
      · simp [hs.scanning op' hsome hx] at hrun
      · simp [hnone] at hsome
      · exact absurd rfl hl.2
    · simp [hpower] at hwait
    · simp [hpower] at hrun
    · simp [hpower]
  | retain h hpower hflush hpfail hwait =>
    have hresume : s.power.resume.isSome = false := by
      rw [Bool.eq_false_iff, ne_eq, hs.resume]
      simp [hflush]
    refine ⟨fun op hop hx => ?_, fun ht => ?_, fun hrun => ?_, ?_, fun hopen => ?_⟩
    · rw [h.store_eq] at hop
      simp [hs.scanning op hop hx] at hflush
    · simp [hpower, hwait] at ht
    · simp [hpower] at hrun
    · simp [hpower, hresume, hpfail]
    · rw [h.service_eq] at hopen
      simp [(hs.session hopen).1] at hflush
  | start _ k h => subst h; exact .of_start rfl rfl rfl rfl
  | freeze hl | device hl => exact absurd rfl hl.1

/-- Under the monitor's law every command but RESET_RELEASE keeps to it. -/
theorem permits_inOwnState {s : State} (hs : MonitorLaw s) {c : Instr} (h : c ≠ .resetRelease) : Permits inOwnState s c where
  start _ := by decide
  launch _ := by decide
  counts _ := by decide
  live _ := by decide
  unstaged _ := by decide
  owed _ := by decide
  kinds k _ := by cases k <;> trivial
  offRun _ _ := .inr (by decide)
  scan _ op hop hx := .inl (hs.scanning op hop hx)
  release hc := absurd hc h
  resume hsome := .inl (hs.resume.1 hsome).2

/-! ## A part that is held -/

namespace State

variable {s t : State}

theorem atEnd_of_idle (hop : s.store.op = none) (x : Task) (f : Operation → State) : s.atEnd x f = s := by
  simp [atEnd, hop]

theorem executeAs_of_start (hdevice : s.power.device = .start) (k : RequestKind) (tag : Byte) (p : List Byte)
    (f : State → State) : s.executeAs k tag p f = s :=
  executeAs_elsewhere s k tag p f (by simp [atHead, isRun, hdevice])

/-- A reply sent in START starts no part. -/
theorem sendReply_of_start (hdevice : s.power.device = .start) (hwait : s.power.replyWait = false) :
    s.sendReply.power.device = .start ∧ s.sendReply.store.op = s.store.op := by
  unfold sendReply
  split
  · next r rest _ _ =>
    dsimp only
    generalize hu : s.setLink { s.link with replies := rest, transmitting := false, credits := s.link.credits - 1 } = u
    have hupower : u.power = s.power := by rw [← hu]; rfl
    have hustore : u.store = s.store := by rw [← hu]; rfl
    generalize hv : (if r.isRestart = true then u.setPower { u.power with restartOwed := true } else u) = v
    have hvdevice : v.power.device = .start := by rw [← hv]; split <;> simp [hupower, hdevice]
    have hvwait : v.power.replyWait = false := by rw [← hv]; split <;> simp [hupower, hwait]
    have hvstore : v.store = s.store := by rw [← hv]; split <;> simp [hustore]
    have hnorun : (r.isRestart && v.isRun) = false := by simp [isRun, hvdevice]
    rw [if_neg (by simp [hnorun])]
    have hsame : v.startTransmitter.endReplyWait = v.startTransmitter := by
      unfold endReplyWait
      rw [(startTransmitter_changes v).power_eq, hvwait]
      rfl
    rw [hsame, (startTransmitter_changes v).power_eq, (startTransmitter_changes v).store_eq, hvstore]
    exact ⟨hvdevice, rfl⟩
  · exact ⟨hdevice, rfl⟩

theorem syncPin_held (p : Pin) (l : Level) : (s.syncPin p l).power.device = s.power.device ∧
    (s.syncPin p l).store = s.store := by
  cases p with
  | channel c =>
    have h := syncChannel_changes s c l
    exact ⟨by rw [syncPin, h.power_eq], by rw [syncPin, h.store_eq]⟩
  | tsel0 | tsel1 | svc | pfail | baud0 | baud1 => exact ⟨rfl, rfl⟩

theorem pfailRises_of_start (hdevice : s.power.device = .start) : s.pfailRises = s.setPfail true := by
  simp [pfailRises, setPfail, hdevice]

theorem pfailFalls_of_start (hdevice : s.power.device = .start) : s.pfailFalls = s.setPfail false := by
  simp [pfailFalls, setPfail, hdevice]

/-- A part without supply, or with its RESET line active, stays at the entry into START until one of them changes. -/
theorem exec_of_held {c : Instr} (halive : s.alive = false) (hdevice : s.power.device = .start) (hop : s.store.op = none)
    (hwait : s.power.replyWait = false) (hc : isSupplyCommand c = false) (hexec : exec c s = .next t) :
    t.power.device = .start ∧ t.store.op = none := by
  cases c with
  | powerOn | resetLineActive | supplyLoss | resetRelease => cases hc
  | synchronisedLevelChange p l =>
    cases hexec
    split
    · rw [(syncPin_held p l).1, (syncPin_held p l).2]; exact ⟨hdevice, hop⟩
    · exact ⟨hdevice, hop⟩
  | pfailActive =>
    cases hexec
    split
    · rw [pfailRises_of_start hdevice]; exact ⟨hdevice, hop⟩
    · exact ⟨hdevice, hop⟩
  | pfailInactive =>
    cases hexec
    split
    · rw [pfailFalls_of_start hdevice]; exact ⟨hdevice, hop⟩
    · exact ⟨hdevice, hop⟩
  | replySent =>
    cases hexec
    have h := sendReply_of_start hdevice hwait
    exact ⟨h.1, h.2.trans hop⟩
  | tick | secondEvent | intervalTimerExpiry | idleTimerExpiry | resumeTimerExpiry | filteredLevelChange
  | characterReceived =>
    cases hexec
    simp [halive, hdevice, hop]
  | tselFilteredChange => cases hexec; simp [tselDue, halive, hdevice, hop]
  | svcFilteredChange => cases hexec; simp [svcDue, halive, hdevice, hop]
  | gapTimerExpiry => cases hexec; simp [gapDue, halive, hdevice, hop]
  | requestFrame => cases hexec; simp [halive, hdevice, hop]
  | scanReadEnd | recordProgramEnd | confirmProgramEnd | epochProgramEnd | copyReadEnd | retireProgramEnd | countProgramEnd
  | imageProgramEnd | slotReadEnd | eraseEnd | configEraseEnd =>
    cases hexec
    simp only [atEraseEnd, atEnd_of_idle hop]
    exact ⟨hdevice, hop⟩
  | unknownKind => cases hexec; simp [atHead, isRun, hdevice, hop]
  | ping | getStatus | readChannel | readCommitted | getStoreMap | readSlot | setTariff | commit | fetchNotice | ackNotice
  | setNoticeMask | openService | closeService | stageChannel | stageGlobals | readConfig | applyConfig | discardStaged
  | loadTotals | restart =>
    cases hexec
    rw [executeAs_of_start hdevice]
    exact ⟨hdevice, hop⟩

theorem startEntry_op (k : StartCause) : (s.startEntry k).store.op = none := rfl

theorem startEntry_supply (k : StartCause) : (s.startEntry k).supply = s.supply := rfl

theorem beginPhases_supply : s.beginPhases.supply = s.supply := rfl

theorem alive_of_supply (h : s.supply = { powered := true, resetLine := false }) : s.alive = true := by simp [alive, h]

theorem loseSupply_held : s.loseSupply.power.device = .start ∧ s.loseSupply.store.op = none := by
  unfold loseSupply
  dsimp only
  generalize s.tear = u
  exact ⟨rfl, rfl⟩

theorem powerUp_held (p : PinLevels) (halive : (s.powerUp p).alive = false) :
    (s.powerUp p).power.device = .start ∧ (s.powerUp p).store.op = none := by
  revert halive
  unfold powerUp
  dsimp only
  generalize s.loseSupply.samplePins p = u
  split
  · exact fun _ => ⟨rfl, rfl⟩
  · next hline =>
    intro halive
    have hline : u.supply.resetLine = false := by simpa using hline
    rw [alive_of_supply] at halive
    · cases halive
    · rw [beginPhases_supply, startEntry_supply, setSupply_supply, hline]

/-- The supply and the RESET line leave a part that is not alive at the entry into START with no operation. -/
theorem exec_supply_held {c : Instr} (hs : PowerLaw s) (hc : isSupplyCommand c = true) (hexec : exec c s = .next t)
    (halive : t.alive = false) : t.power.device = .start ∧ t.store.op = none := by
  have hunpowered : s.supply.powered = false → s.power.device = .start ∧ s.store.op = none := fun h =>
    hs.held (by simp [alive, h])
  cases c with
  | powerOn p => cases hexec; exact powerUp_held p halive
  | resetLineActive =>
    by_cases hline : s.supply.resetLine = true
    · simp only [exec, execResetLineActive, hline, if_true] at hexec
      cases hexec
      exact hs.held halive
    · simp only [exec, execResetLineActive, hline] at hexec
      cases hexec
      split
      · generalize (s.setSupply _).tear = u
        exact ⟨rfl, rfl⟩
      · next hpowered => exact hunpowered (by simpa using hpowered)
  | supplyLoss =>
    cases hexec
    split
    · exact loseSupply_held
    · next hpowered => exact hunpowered (by simpa using hpowered)
  | resetRelease =>
    by_cases hline : s.supply.resetLine = true
    · simp only [exec, execResetRelease, hline, if_true] at hexec
      cases hexec
      revert halive
      split
      · next hpowered =>
        intro halive
        rw [alive_of_supply] at halive
        · cases halive
        · rw [beginPhases_supply]
          simp only [setSupply_supply] at hpowered
          simp [takeLines, hpowered]
      · next hpowered => exact fun _ => hunpowered (by simpa using hpowered)
    · simp only [exec, execResetRelease, hline] at hexec
      cases hexec
      exact hs.held halive
  | _ => cases hc

/-- The release of the RESET line of a part with supply: the lines' present levels, and START's first read. -/
theorem exec_resetRelease_monitor (hs : PowerLaw s) (hexec : exec .resetRelease s = .next t) : MonitorLaw t := by
  by_cases hline : s.supply.resetLine = true
  · simp only [exec, execResetRelease, hline, if_true] at hexec
    cases hexec
    split
    · have hdevice : s.power.device = .start := (hs.held (by simp [alive, hline])).1
      have hwait : s.power.replyWait = false := by
        by_contra h
        have hflush := (hs.replyWait (by simpa using h)).1
        simp [hdevice] at hflush
      have hresume : s.power.resume = none := by
        by_contra h
        have hretain := (hs.resume.1 (Option.isSome_iff_ne_none.2 h)).1
        simp [hdevice] at hretain
      have hsession : s.service.session = .closed := by
        by_contra h
        have hrun := (hs.session h).1
        simp [hdevice] at hrun
      exact .of_start hdevice hwait hresume hsession
    · exact hs.monitor.of_changes (setSupply_changes ..)
  · simp only [exec, execResetRelease, hline] at hexec
    cases hexec
    exact hs.monitor

end State

theorem exec_keeps_powerLaw {c : Instr} {s t : State} (hexec : exec c s = .next t) (hs : PowerLaw s) : PowerLaw t := by
  have hmonitor : MonitorLaw t := by
    by_cases hc : c = .resetRelease
    · exact exec_resetRelease_monitor hs (hc ▸ hexec)
    · exact Moves.exec_keeps Move.keeps_monitorLaw (permits_inOwnState hs.monitor hc) hexec hs.monitor
  refine hmonitor.held fun halive => ?_
  by_cases hc : isSupplyCommand c = true
  · exact exec_supply_held hs hc hexec halive
  · have hc : isSupplyCommand c = false := by simpa using hc
    have hsupply : t.supply = s.supply := (exec_changes_of_next hexec).supply_eq (supply_not_mem_commandBlocks hc)
    have hheld : s.alive = false := by rw [← halive]; simp only [alive, hsupply]
    obtain ⟨hdevice, hop⟩ := hs.held hheld
    have hwait : s.power.replyWait = false := by
      by_contra h
      have hflush := (hs.replyWait (by simpa using h)).1
      simp [hdevice] at hflush
    exact exec_of_held hheld hdevice hop hwait hc hexec

/-- Settles O7: every move keeps the monitor's items together, and a part that is held stays so until its supply or its RESET
line changes. -/
theorem stepKeepsThePowerMonitorConsistent : Obligations.StepKeepsThePowerMonitorConsistent := by
  unfold Obligations.StepKeepsThePowerMonitorConsistent
  intro s t h hstep
  obtain rfl | ⟨c, rest, hexec⟩ := step_cases hstep
  · exact h
  · exact exec_keeps_powerLaw hexec (show PowerLaw (s.setPending rest) from ⟨h.1, h.2, h.3, h.4, h.5, h.6⟩)

end Sys2Proof.Machine
end

section

-- One theorem at a time, as in the tests: many proofs elaborated at once each hold a thread's stack.
set_option Elab.async false

/-! What only some commands can change: the live configuration (law 9), the armed flag and the mask (R148, R149), erase counts
(R94). -/

namespace Sys2Proof.Machine

open State

/-- The licence of FLUSH entry's own moves. -/
abbrev onlyLoose : Licence → Prop := (· = .loose)

/-- FLUSH entry keeps what every move keeps that enters no START. -/
theorem State.enterFlush_keeps {P : State → Prop} (hP : ∀ {s t}, Move onlyLoose s t → P s → P t) {s : State} (hs : P s) :
    P s.enterFlush :=
  (s.enterFlush_loose_moves (L := onlyLoose) rfl).keeps hP hs

/-- Out of START's completion a part in START stays there. -/
theorem Move.keeps_start {L : Licence → Prop} {s t : State} (loose : ¬ L .loose) (launch : ¬ L .launch) (h : Move L s t)
    (hs : s.power.device = .start) : t.power.device = .start := by
  cases h with
  | power _ hdevice => exact hdevice.trans hs
  | toRun _ hdevice => exact absurd hs hdevice
  | launch hl => exact absurd hl launch
  | flush _ _ _ _ _ hfrom =>
    obtain hrun | ⟨hl, -⟩ := hfrom
    · simp [hs] at hrun
    · exact absurd hl launch
  | retain _ _ hdevice => simp [hs] at hdevice
  | start _ k h => subst h; rfl
  | device hl | freeze hl => exact absurd hl loose
  | notice h => rw [h.changes.power_eq, hs]
  | link h => rw [h.changes.power_eq, hs]
  | rest h | capture h | accum h | sched h | deliver h | store h | config h | service h | closes h | opens h =>
    rw [h.power_eq, hs]

/-! ## Law 9 -/

/-- The live configuration, its generation and the live sector are those of `s`. -/
structure SameLive (s t : State) : Prop where
  live : t.config.live = s.config.live
  generation : t.config.generation = s.config.generation
  sector : t.config.liveSector = s.config.liveSector

theorem SameLive.of_config {s t u : State} (h : SameLive s t) (hu : u.config = t.config) : SameLive s u :=
  ⟨hu ▸ h.live, hu ▸ h.generation, hu ▸ h.sector⟩

theorem SameLive.of_staged {s t u : State} (h : SameLive s t) {x : Configuration}
    (hu : u.config = { t.config with staged := x }) : SameLive s u :=
  ⟨by rw [hu]; exact h.live, by rw [hu]; exact h.generation, by rw [hu]; exact h.sector⟩

theorem Move.keeps_live {L : Licence → Prop} {s₀ s t : State} (loose : L .loose) (live : ¬ L .live) (h : Move L s t)
    (hs : SameLive s₀ s) : SameLive s₀ t := by
  cases h with
  | config _ hlive _ =>
    obtain ⟨h1, h2, h3⟩ | hl := (by tauto : (t.config.live = s.config.live ∧ t.config.generation = s.config.generation ∧
      t.config.liveSector = s.config.liveSector) ∨ L .live)
    · exact ⟨h1.trans hs.live, h2.trans hs.generation, h3.trans hs.sector⟩
    · exact absurd hl live
  | closes _ _ hconfig => exact hs.of_staged hconfig
  | opens _ _ hconfig => exact hs.of_staged hconfig
  | start _ k h => subst h; exact ⟨hs.live, hs.generation, hs.sector⟩
  | flush hl => exact absurd loose hl
  | toRun h | launch _ h => exact hs.of_config (setPower_captureLive_changes h).config_eq
  | notice h => exact hs.of_config h.changes.config_eq
  | link h => exact hs.of_config h.changes.config_eq
  | rest h | capture h | accum h | sched h | deliver h | store h | service h | power h | retain h | freeze _ h
  | device _ h => exact hs.of_config h.config_eq

/-- Everything is allowed but to make a configuration live. -/
abbrev liveStays : Licence → Prop := (· ≠ .live)

theorem permits_liveStays {s : State} {c : Instr} (h : ¬ MakesLive s c) : Permits liveStays s c where
  start _ := by decide
  launch _ := by decide
  counts _ := by decide
  live hc := absurd hc h
  unstaged _ := by decide
  owed _ := by decide
  kinds k _ := by cases k <;> simp [licensed]
  offRun _ _ := .inr (by decide)
  scan _ _ _ _ := .inr (by decide)
  release _ := by decide
  resume _ := .inr (by decide)

/-- Settles O9: only the moves that make a configuration live change it, and only these commands hold one. -/
theorem liveConfigurationChangesOnlyAtScanAndApply : Obligations.LiveConfigurationChangesOnlyAtScanAndApply := by
  unfold Obligations.LiveConfigurationChangesOnlyAtScanAndApply
  intro c s t hexec hchanged
  by_contra hmakes
  have hsame : SameLive s t := Moves.exec_keeps (Move.keeps_live (by decide) (by decide)) (permits_liveStays hmakes) hexec
    ⟨rfl, rfl, rfl⟩
  obtain h | h | h := hchanged
  · exact h hsame.live
  · exact h hsame.generation
  · exact h hsame.sector

/-! ## The armed flag and the mask -/

/-- The armed flag and the mask of two states are the same. -/
def SameArming (s t : State) : Prop := t.notices.armed = s.notices.armed ∧ t.notices.mask = s.notices.mask

theorem Move.keeps_arming {s₀ s t : State} (h : Move onlyLoose s t) (hs : SameArming s₀ s) : SameArming s₀ t := by
  obtain hsame | hmove | ⟨hl, -⟩ := h.notices (L := onlyLoose) rfl
  · unfold SameArming
    rw [hsame]
    exact hs
  · cases hmove with
    | raise k d h => subst h; exact hs
    | fetch hl | ack hl | mask hl => cases hl
  · cases hl

/-- What a happening of a command has made of the armed flag and of the mask so far: what the requests it executes make of them,
or what a start does. -/
structure Arming (s : State) (c : Instr) (t : State) : Prop where
  disarmed : t.notices.armed = false → s.notices.armed = false ∨ executes s .fetchNotice c
  armed : t.notices.armed = true → s.notices.armed = true ∨ executes s .ackNotice c ∨
    c ≠ .scanReadEnd ∧ t.power.device = .start
  mask : t.notices.mask = s.notices.mask ∨ executes s .setNoticeMask c ∨ c ≠ .scanReadEnd ∧ t.power.device = .start

/-- What a command may do to the notice unit: START is entered by every command but SCAN_READ_END, which completes it. -/
def armingLicence (s : State) (c : Instr) : Licence → Prop
  | .fetch => executes s .fetchNotice c
  | .ack => executes s .ackNotice c
  | .mask => executes s .setNoticeMask c
  | .start => c ≠ .scanReadEnd
  | .launch => c = .scanReadEnd
  | .loose => False
  | _ => True

theorem Arming.of_same {s t u : State} {c : Instr} (h : Arming s c t) (hn : SameArming t u)
    (hdevice : c ≠ .scanReadEnd → t.power.device = .start → u.power.device = .start) : Arming s c u := by
  obtain ⟨harmed, hmask⟩ := hn
  refine ⟨fun hu => h.disarmed (harmed ▸ hu), fun hu => ?_, ?_⟩
  · exact (h.armed (harmed ▸ hu)).imp_right (Or.imp_right fun ⟨hc, hd⟩ => ⟨hc, hdevice hc hd⟩)
  · rw [hmask]
    exact h.mask.imp_right (Or.imp_right fun ⟨hc, hd⟩ => ⟨hc, hdevice hc hd⟩)

theorem Move.keeps_armed {s₀ s t : State} {c : Instr} (h : Move (armingLicence s₀ c) s t) (hs : Arming s₀ c s) :
    Arming s₀ c t := by
  have hdevice : c ≠ .scanReadEnd → s.power.device = .start → t.power.device = .start := fun hc =>
    h.keeps_start (L := armingLicence s₀ c) id hc
  have hsame : t.notices = s.notices → Arming s₀ c t := fun hn => hs.of_same ⟨by rw [hn], by rw [hn]⟩ hdevice
  cases h with
  | notice h =>
    have hpower := h.changes.power_eq
    cases h with
    | raise k d h => exact hs.of_same (by subst h; exact ⟨rfl, rfl⟩) hdevice
    | fetch hl k h =>
      subst h
      exact ⟨fun _ => .inr hl, fun ht => absurd ht (by simp [takeNotice]), hs.mask⟩
    | ack hl h =>
      subst h
      exact ⟨fun ht => absurd ht (by simp), fun _ => .inr (.inl hl), hs.mask⟩
    | mask hl m _ h =>
      subst h
      exact ⟨hs.disarmed, hs.armed, .inr (.inl hl)⟩
  | start hl k h =>
    subst h
    exact ⟨fun ht => absurd ht (by simp [startEntry, NoticeUnit.initial]), fun _ => .inr (.inr ⟨hl, rfl⟩),
      .inr (.inr ⟨hl, rfl⟩)⟩
  | flush _ u _ h hnotices _ =>
    refine hs.of_same ?_ hdevice
    have hkept : SameArming u u.enterFlush := enterFlush_keeps Move.keeps_arming ⟨rfl, rfl⟩
    rw [h]
    exact ⟨hkept.1.trans hnotices.1, hkept.2.trans hnotices.2⟩
  | toRun h | launch _ h => exact hsame (setPower_captureLive_changes h).notices_eq
  | link h => exact hsame h.changes.notices_eq
  | rest h | capture h | accum h | sched h | deliver h | store h | config h | service h | closes h | opens h | power h
  | retain h | freeze _ h | device _ h => exact hsame h.notices_eq

theorem permits_armingLicence (s : State) (c : Instr) : Permits (armingLicence s c) s c where
  start h := h
  launch h := h
  counts _ := trivial
  live _ := trivial
  unstaged _ := trivial
  owed _ := trivial
  kinds k h := by cases k <;> first | exact h | trivial
  offRun _ _ := .inr trivial
  scan _ _ _ _ := .inr trivial
  release _ := trivial
  resume _ := .inr trivial

/-- Settles O10: only FETCH_NOTICE's, ACK_NOTICE's and SET_NOTICE_MASK's moves change the flag and the mask, and a start. -/
theorem armedFlagAndMaskChangeOnlyByTheirRequests : Obligations.ArmedFlagAndMaskChangeOnlyByTheirRequests := by
  unfold Obligations.ArmedFlagAndMaskChangeOnlyByTheirRequests
  intro c s t hexec
  have h : Arming s c t := Moves.exec_keeps Move.keeps_armed (permits_armingLicence s c) hexec ⟨.inl, .inl, .inl rfl⟩
  refine ⟨fun hs ht => ?_, fun hs ht => ?_, fun hmask => ?_⟩
  · exact (h.disarmed ht).resolve_left (by simp [hs])
  · exact ((h.armed ht).resolve_left (by simp [hs])).imp_right And.right
  · exact (h.mask.resolve_left hmask).imp_right And.right

/-! ## Erase counts -/

/-- The erase counts are those of `s`, unless START has been entered. -/
def SameCounts (s t : State) : Prop :=
  t.power.device = .start ∨ ∀ r, (t.store.table.get r).eraseCount = (s.store.table.get r).eraseCount

/-- A happening that neither programs a COUNT nor scans. -/
abbrev countsStay : Licence → Prop := fun l => l ≠ .loose ∧ l ≠ .counts ∧ l ≠ .launch

theorem Move.eraseCounts {L : Licence → Prop} {s t : State} (start : ¬ L .start) (counts : ¬ L .counts) (loose : L .loose)
    (h : Move L s t) (r : RingSector) : (t.store.table.get r).eraseCount = (s.store.table.get r).eraseCount := by
  cases h with
  | store _ _ _ _ hcounts => exact hcounts.resolve_right counts r
  | start hl => exact absurd hl start
  | flush hl => exact absurd loose hl
  | toRun h | launch _ h => rw [(setPower_captureLive_changes h).store_eq]
  | notice h => rw [h.changes.store_eq]
  | link h => rw [h.changes.store_eq]
  | rest h | capture h | accum h | sched h | deliver h | config h | service h | closes h | opens h | power h | retain h
  | freeze _ h | device _ h => rw [h.store_eq]

theorem Move.keeps_counts {s₀ s t : State} (h : Move countsStay s t) (hs : SameCounts s₀ s) : SameCounts s₀ t := by
  obtain hdevice | hsame := hs
  · exact .inl (h.keeps_start (by decide) (by decide) hdevice)
  · have hstore : t.store = s.store → SameCounts s₀ t := fun heq => .inr (by rw [heq]; exact hsame)
    cases h with
    | store _ _ _ _ hcounts => exact .inr fun r => (hcounts.resolve_right (by decide) r).trans (hsame r)
    | start _ k h => subst h; exact .inl rfl
    | flush _ u hu h =>
      have hkept : ∀ r, (u.enterFlush.store.table.get r).eraseCount = (u.store.table.get r).eraseCount :=
        enterFlush_keeps (P := fun v => ∀ r, (v.store.table.get r).eraseCount = (u.store.table.get r).eraseCount)
          (fun hmove hv r => (hmove.eraseCounts (L := onlyLoose) (by decide) (by decide) rfl r).trans (hv r)) fun _ => rfl
      refine .inr fun r => ?_
      rw [h, hkept, hu.store_eq, hsame]
    | toRun h => exact hstore (setPower_captureLive_changes h).store_eq
    | launch hl => exact absurd rfl hl.2.2
    | notice h => exact hstore h.changes.store_eq
    | link h => exact hstore h.changes.store_eq
    | freeze hl | device hl => exact absurd rfl hl.1
    | rest h | capture h | accum h | sched h | deliver h | config h | service h | closes h | opens h | power h | retain h =>
      exact hstore h.store_eq

theorem permits_countsStay (s : State) {c : Instr} (hscan : c ≠ .scanReadEnd) (hcount : ∀ o, c ≠ .countProgramEnd o) :
    Permits countsStay s c where
  start _ := by decide
  launch h := absurd h hscan
  counts h := by
    obtain h | ⟨o, h⟩ := h
    · exact absurd h hscan
    · exact absurd h (hcount o)
  live _ := by decide
  unstaged _ := by decide
  owed _ := by decide
  kinds k _ := by cases k <;> trivial
  offRun _ _ := .inr (by decide)
  scan _ _ _ _ := .inr (by decide)
  release _ := by decide
  resume _ := .inr (by decide)

/-- COUNT adds 1 to its sector's count and leaves the others (R93, R94). -/
theorem State.countEnd_counts (s : State) (o : ProgramOutcome) (r : RingSector) :
    (s.countEnd o).power.device = s.power.device ∧
    (((s.countEnd o).store.table.get r).eraseCount = (s.store.table.get r).eraseCount ∨
      s.engine.phase = .count r ∧ ((s.countEnd o).store.table.get r).eraseCount = (s.store.table.get r).eraseCount + 1) := by
  unfold countEnd
  split
  · next q hphase =>
    dsimp only
    generalize hu : (s.setEntry q _).setPhase .idle = u
    have hudevice : u.power.device = s.power.device := by rw [← hu]; rfl
    have hcounts : (u.store.table.get r).eraseCount = (s.store.table.get r).eraseCount ∨
        s.engine.phase = .count r ∧ (u.store.table.get r).eraseCount = (s.store.table.get r).eraseCount + 1 := by
      by_cases hr : r = q
      · subst hr
        refine .inr ⟨hphase, ?_⟩
        rw [← hu]
        simp [setEntry, setPhase, entry]
      · refine .inl ?_
        rw [← hu]
        simp [setEntry, setPhase, PerRing.get_set, hr]
    split
    · have htested : (u.testExhausted.store.table.get r).eraseCount = (u.store.table.get r).eraseCount :=
        u.testExhausted_moves.keeps (L := onlyLoose)
          (P := fun v => (v.store.table.get r).eraseCount = (u.store.table.get r).eraseCount)
          (fun hmove hv => (hmove.eraseCounts (L := onlyLoose) (by decide) (by decide) rfl r).trans hv) rfl
      rw [(testExhausted_changes u).power_eq, hudevice, htested]
      exact ⟨rfl, hcounts⟩
    · exact ⟨hudevice, hcounts⟩
  · exact ⟨rfl, .inl rfl⟩

theorem exec_countProgramEnd_counts {s t : State} {o : ProgramOutcome} (r : RingSector)
    (hexec : exec (.countProgramEnd o) s = .next t) (hdevice : t.power.device ≠ .start)
    (hchanged : (t.store.table.get r).eraseCount ≠ (s.store.table.get r).eraseCount) :
    s.engine.phase = .count r ∧ (t.store.table.get r).eraseCount = (s.store.table.get r).eraseCount + 1 := by
  cases hexec
  revert hdevice hchanged
  unfold atEnd
  split
  · next op _ =>
    split
    · intro hdevice hchanged
      dsimp only at hdevice hchanged ⊢
      have hcounted := ((s.endProgram op o).countEnd_counts o r).2
      generalize hu : (s.endProgram op o).countEnd o = u at hdevice hchanged hcounted ⊢
      have hphase : (s.endProgram op o).engine.phase = s.engine.phase := by rw [(endProgram_changes ..).engine_eq]
      have hbefore : ((s.endProgram op o).store.table.get r).eraseCount = (s.store.table.get r).eraseCount := by
        unfold endProgram
        split <;> rfl
      have hchosen : SameCounts u u.arbiter :=
        (u.arbiter_moves fun _ => .inr (by decide)).keeps Move.keeps_counts (.inr fun _ => rfl)
      rw [hchosen.resolve_left hdevice r] at hchanged ⊢
      rw [hphase, hbefore] at hcounted
      exact hcounted.resolve_left hchanged
    · exact fun _ h => absurd rfl h
  · exact fun _ h => absurd rfl h

/-- Settles O11: out of START's scan only a COUNT's move changes an erase count. -/
theorem eraseCountsGrowOnlyAtCountEnds : Obligations.EraseCountsGrowOnlyAtCountEnds := by
  unfold Obligations.EraseCountsGrowOnlyAtCountEnds
  intro c s t r hs hexec hdevice hdevice' hchanged
  by_cases hcount : ∃ o, c = .countProgramEnd o
  · obtain ⟨o, rfl⟩ := hcount
    exact ⟨⟨o, rfl⟩, exec_countProgramEnd_counts r hexec hdevice' hchanged⟩
  · by_cases hscan : c = .scanReadEnd
    · subst hscan
      cases hexec
      revert hchanged
      unfold atEnd
      split
      · next op hop =>
        rw [if_neg fun hx => hdevice (hs.scanning op hop hx)]
        exact fun h => absurd rfl h
      · exact fun h => absurd rfl h
    · have hkept : SameCounts s t := Moves.exec_keeps Move.keeps_counts
        (permits_countsStay s hscan fun o h => hcount ⟨o, h⟩) hexec (.inr fun _ => rfl)
      exact absurd (hkept.resolve_left hdevice' r) hchanged

/-! ## The state after reset -/

/-- Settles O8: the reset state, field by field. -/
theorem resetMeetsTheInvariants : Obligations.ResetMeetsTheInvariants := by
  unfold Obligations.ResetMeetsTheInvariants
  refine ⟨rfl, ?link, ?count, ?queue, fun _ => rfl, ?run, ?power, ?notices, ?start, ⟨rfl, rfl, rfl⟩⟩
  case link => constructor <;> decide
  case count =>
    exact ⟨(fun c => by cases c <;> decide), (fun c => by cases c <;> decide), (fun c => by cases c <;> decide),
      (fun j hj => by cases hj), (fun c => by cases c <;> decide), (fun k => by cases k <;> decide), by decide⟩
  case queue => constructor <;> decide
  case run =>
    exact ⟨by decide, fun _ c => by cases c <;> rfl, fun _ => rfl, fun _ => rfl, fun _ => rfl, fun h => absurd rfl h⟩
  case power =>
    exact ⟨by decide, fun _ _ _ => rfl, by decide, by decide, by decide, by decide⟩
  case notices =>
    exact ⟨fun k => by cases k <;> decide, fun k _ => by cases k <;> rfl, rfl⟩
  case start =>
    exact ⟨rfl, rfl, rfl, rfl, rfl, ⟨rfl, rfl⟩, rfl, fun c => by cases c <;> exact ⟨rfl, rfl, rfl⟩,
      fun c => by cases c <;> rfl, ⟨rfl, rfl, rfl⟩, rfl, ⟨rfl, rfl⟩, rfl, rfl, ⟨rfl, rfl⟩,
      fun k => by cases k <;> rfl, ⟨rfl, rfl⟩, ⟨rfl, rfl, rfl⟩, ⟨rfl, rfl, rfl⟩, ⟨rfl, rfl⟩⟩

end Sys2Proof.Machine
end

section

-- One theorem at a time, as in the tests: many proofs elaborated at once each hold a thread's stack.
set_option Elab.async false

/-! Requests that are answered at once: the link's checks, the reports, the notices (R163, R172 to R175, R180, R181, R187). -/

namespace Sys2Proof.Machine

open State

variable {s : State} {k : RequestKind} {kind tag : Byte} {p : List Byte} {rest : List Request}

/-! ## Answers to the head -/

/-- An answer in RUN stands at the tail of the reply queue, the transmitter is sending, and nothing else changes (R165). -/
theorem answer_eq_answered (s : State) (kind tag : Byte) (a : Answer) (run : s.power.device = .run) :
    s.answer kind tag a = s.answered s.link.requests kind tag a.status a.payload := by
  simp only [State.answer, State.enqueueReply, State.startTransmitter, State.setLink, State.answered, Reply.answering, run]
  cases h : s.link.transmitting <;> simp_all

/-- The head has been refused (R163). -/
theorem popRequest_refuse (k : RequestKind) (x : Status) (h : AtHead s kind tag p rest) :
    s.popRequest.refuse k tag x = s.answered rest k.code tag x [] := popRequest_reply k (Answer.refuse x) h

/-- The head is answered in a state that the happening has changed beside its queue. -/
theorem reply_of_taken {u v : State} (hu : u = { v with link := { v.link with requests := rest } })
    (run : v.power.device = .run) (k : RequestKind) (tag : Byte) (a : Answer) :
    u.reply k tag a = v.answered rest k.code tag a.status a.payload := by
  subst hu
  exact reply_eq_answered _ k tag a run

theorem exec_eq_next {c : Instr} {f : State → State} (hc : exec c s = .next (s.executeAs k tag p f))
    (h : AtHead s k.code tag p rest) (hp : p.length = k.payloadLength) : exec c s = .next (f s.popRequest) := by
  rw [hc, executeAs_popRequest f h hp]

/-! ## The kinds -/

/-- All request kinds. -/
def RequestKind.all : List RequestKind :=
  [.ping, .getStatus, .readChannel, .readCommitted, .getStoreMap, .readSlot, .setTariff, .commit, .fetchNotice, .ackNotice,
    .setNoticeMask, .openService, .closeService, .stageChannel, .stageGlobals, .readConfig, .applyConfig, .discardStaged,
    .loadTotals, .restart]

theorem RequestKind.mem_all (k : RequestKind) : k ∈ all := by cases k <;> decide

@[simp] theorem RequestKind.ofCode?_code (k : RequestKind) : ofCode? k.code = some k := by cases k <;> rfl

theorem RequestKind.ofCode?_eq_some {b : Byte} : ofCode? b = some k ↔ b = k.code := by
  constructor
  · intro h
    refine BitVec.eq_of_toNat_eq ?_
    unfold ofCode? at h
    split at h <;> cases h <;> assumption
  · rintro rfl
    exact ofCode?_code k

/-- The row of a kind is the executor's taking of such a request. -/
theorem exec_request {c : Instr} (hc : c.request? = some (k.code, tag, p)) (hwf : c.wellFormed = true) :
    exec c s = .next (s.executeAs k tag p fun s => s.perform k tag p) := by
  cases c with
  | unknownKind b t q =>
    cases hc
    simp [Instr.wellFormed] at hwf
  | _ =>
    simp only [Instr.request?, reduceCtorEq] at hc
    try
      simp only [Option.some.injEq, Prod.mk.injEq] at hc
      obtain ⟨hcode, rfl, rfl⟩ := hc
      have hk := RequestKind.ofCode?_eq_some.2 hcode
      rw [RequestKind.ofCode?_code] at hk
      cases hk
      rfl

/-- Settles O56: the codes and lengths by their table; the executor's checks before a request's own. -/
theorem unknownKindsAndWrongLengthsAreRefused : Obligations.UnknownKindsAndWrongLengthsAreRefused := by
  unfold Obligations.UnknownKindsAndWrongLengthsAreRefused
  refine ⟨rfl, fun b n => ?table, fun s tag rest p => ⟨fun kind hkind h => ?unknown, fun c k hwf hc h hp => ?length,
    fun h => ?restart⟩⟩
  case table =>
    show _ ↔ (b, n) ∈ RequestKind.all.map fun k => (k.code, k.payloadLength)
    simp only [List.mem_map, Prod.mk.injEq]
    constructor
    · rintro ⟨k, hk, rfl⟩
      exact ⟨k, k.mem_all, (RequestKind.ofCode?_eq_some.1 hk).symm, rfl⟩
    · rintro ⟨k, -, rfl, rfl⟩
      exact ⟨k, k.ofCode?_code, rfl⟩
  case unknown =>
    have hexec : exec (.unknownKind kind tag p) s = .next (s.executeUnknown kind tag) := by
      simp [exec, execUnknownKind, atHead, isRun, h.run, h.head, hkind]
    rw [hexec, executeUnknown, popRequest_eq h]
    exact congrArg Host.Outcome.next (answer_eq_answered _ kind tag _ h.run)
  case length => rw [exec_request hc hwf, executeAs_atHead _ _ _ _ _ _ h, if_neg hp]
  case restart =>
    rw [exec_eq_next (k := .restart) (f := fun s => s.doRestart tag) rfl h rfl]
    exact congrArg Host.Outcome.next (popRequest_reply .restart (Answer.ok []) h)

/-! ## The notice table as bits -/

theorem NoticeKind.bit_getLsbD (k j : NoticeKind) : k.bit.getLsbD j.number = (k == j) := by
  cases k <;> cases j <;> rfl

theorem NoticeKind.mem_all (k : NoticeKind) : k ∈ all := by cases k <;> decide

theorem NoticeKind.exists_number {i : Nat} (hi : i < 8) : ∃ k : NoticeKind, k.number = i := by
  have h : ∀ i < 8, i ∈ all.map number := by decide
  obtain ⟨k, -, hk⟩ := List.mem_map.1 (h i hi)
  exact ⟨k, hk⟩

/-- The bits of the kinds of a list that meet a test. -/
theorem NoticeKind.foldl_bit (q : NoticeKind → Bool) (j : NoticeKind) : ∀ (l : List NoticeKind) (m : NoticeSet),
    (l.foldl (fun m k => if q k then m ||| k.bit else m) m).getLsbD j.number =
      (m.getLsbD j.number || (decide (j ∈ l) && q j))
  | [], m => by simp
  | k :: l, m => by
    rw [List.foldl_cons, foldl_bit q j l]
    by_cases hk : j = k
    · subst hk
      by_cases hq : q j = true
      · simp [hq, bit_getLsbD]
      · simp [hq]
    · have hbit : k.bit.getLsbD j.number = false := by simp [bit_getLsbD, Ne.symm hk]
      by_cases hq : q k = true
      · simp [hq, hk, hbit]
      · simp [hq, hk]

theorem NoticeTable.pendingSet_getLsbD (t : NoticeTable) (k : NoticeKind) :
    t.pendingSet.getLsbD k.number = (t.get k).pending := by
  rw [pendingSet, NoticeKind.foldl_bit (fun k => (t.get k).pending) k]
  simp [k.mem_all]

/-- A set of kinds is known by its kinds. -/
theorem NoticeSet.ext_kinds {x y : NoticeSet} (h : ∀ k : NoticeKind, x.getLsbD k.number = y.getLsbD k.number) : x = y := by
  refine BitVec.eq_of_getLsbD_eq fun i hi => ?_
  obtain ⟨k, rfl⟩ := NoticeKind.exists_number hi
  exact h k

theorem NoticeTable.eq_pendingSet {t : NoticeTable} {x : NoticeSet}
    (h : ∀ k : NoticeKind, x.getLsbD k.number = (t.get k).pending) : x = t.pendingSet :=
  NoticeSet.ext_kinds fun k => (h k).trans (t.pendingSet_getLsbD k).symm

theorem NoticeUnit.eligible_iff {u : NoticeUnit} {masked : Bool} {k : NoticeKind} :
    u.eligible masked k = true ↔
      (u.records.get k).pending = true ∧ (masked = true ∨ k = .power ∨ u.mask.getLsbD k.number = false) := by
  simp only [eligible, Bool.and_eq_true, Bool.or_eq_true, beq_iff_eq, Bool.not_eq_true', or_assoc]

theorem NoticeKind.all_split (k : NoticeKind) : all = all.take k.number ++ k :: all.drop (k.number + 1) := by
  cases k <;> rfl

theorem NoticeKind.number_lt_of_mem_take (k : NoticeKind) : ∀ j ∈ all.take k.number, j.number < k.number := by
  cases k <;> decide

/-- The eligible kind of the lowest number is the one FETCH_NOTICE finds (R151). -/
theorem NoticeUnit.highest?_eq_some {u : NoticeUnit} {masked : Bool} {k : NoticeKind} (hk : u.eligible masked k = true)
    (hleast : ∀ j, u.eligible masked j = true → k.number ≤ j.number) : u.highest? masked = some k := by
  rw [highest?, List.find?_eq_some_iff_append]
  refine ⟨hk, _, _, k.all_split, fun j hj => ?_⟩
  by_contra h
  have hlt := k.number_lt_of_mem_take j hj
  have hle := hleast j (by simpa using h)
  omega

theorem NoticeUnit.highest?_eq_none {u : NoticeUnit} {masked : Bool} (h : ∀ k, ¬ u.eligible masked k = true) :
    u.highest? masked = none := List.find?_eq_none.2 fun k _ => h k

theorem NoticeUnit.any_eligible_iff {u : NoticeUnit} :
    NoticeKind.all.any (u.eligible false) = true ↔
      ∃ k : NoticeKind, (u.records.get k).pending = true ∧ (k = .power ∨ u.mask.getLsbD k.number = false) := by
  rw [List.any_eq_true]
  simp only [eligible_iff, Bool.false_eq_true, false_or]
  exact ⟨fun ⟨k, _, h⟩ => ⟨k, h⟩, fun ⟨k, h⟩ => ⟨k, k.mem_all, h⟩⟩

/-! ## FETCH_NOTICE -/

theorem yesNo?_above {n : Nat} (h : 1 < n) : yesNo? n = none := by
  unfold yesNo?
  split <;> first | rfl | omega

theorem yesNo?_byte {b : Byte} (h : b.toNat ≤ 1) : yesNo? b.toNat = some (b == 1) := by
  have hb : b = 0 ∨ b = 1 := by bv_omega
  obtain rfl | rfl := hb <;> rfl

theorem exec_fetchNotice_atHead {flag : Byte} (h : AtHead s 0x18 tag [flag] rest) :
    exec (.fetchNotice tag [flag]) s = .next (s.popRequest.doFetchNotice tag [flag]) :=
  exec_eq_next (k := .fetchNotice) (f := fun s => s.doFetchNotice tag [flag]) rfl h rfl

/-- The detail's two bytes (R180). -/
theorem NoticeDetail.bytes_eq {d : NoticeDetail} {d1 d2 : Byte}
    (h : match d with
      | .empty => d1 = 0 ∧ d2 = 0
      | .power (.started .powerOn) => d1 = 1 ∧ d2 = 0
      | .power (.started .resetLine) => d1 = 2 ∧ d2 = 0
      | .power (.started .restart) => d1 = 3 ∧ d2 = 0
      | .power .flushComplete => d1 = 4 ∧ d2 = 0
      | .power (.flushIncomplete m) => d1 = 5 ∧ d2 = m
      | .power .resumed => d1 = 6 ∧ d2 = 0
      | .sector n => d1 = BitVec.ofNat 8 n ∧ d2 = 0
      | .config .bothValid => d1 = 0 ∧ d2 = 0
      | .config .oneCopy => d1 = 1 ∧ d2 = 0
      | .config .defaulted => d1 = 2 ∧ d2 = 0
      | .reasons r => d1 = r ∧ d2 = 0
      | .channels m => d1 = m ∧ d2 = 0
      | .rollover m bs => d1 = m ∧ d2.toNat = bs.toNat) : d.bytes = [d1, d2] := by
  unfold bytes
  split at h <;> obtain ⟨rfl, h2⟩ := h
  case h_14 m bs =>
    have hd2 : d2 = bs.setWidth 8 := by bv_omega
    rw [hd2]
  all_goals rw [h2]

/-- Settles O57: the flag's reading, and the search of the table in the order of the kinds. -/
theorem fetchNoticeReturnsTheHighestEligibleKind : Obligations.FetchNoticeReturnsTheHighestEligibleKind := by
  unfold Obligations.FetchNoticeReturnsTheHighestEligibleKind
  intro s tag rest flag h
  dsimp only
  have heligible : ∀ k, s.notices.eligible (flag == 1) k = true ↔ (s.notices.records.get k).pending = true ∧
      (flag = 1 ∨ k = .power ∨ s.notices.mask.getLsbD k.number = false) := fun k => by
    rw [NoticeUnit.eligible_iff, beq_iff_eq]
  have hnotices : s.popRequest.notices = s.notices := rfl
  rw [exec_fetchNotice_atHead h]
  refine ⟨fun habove => ?above, fun hflag hnone => ?none, fun hflag k hk hleast pending d1 d2 hpending hdetail => ?some⟩
  case above =>
    simp only [doFetchNotice, field_zero_cons, yesNo?_above habove, popRequest_refuse _ _ h]
    rfl
  case none =>
    have hsearch : s.notices.highest? (flag == 1) = none :=
      NoticeUnit.highest?_eq_none fun k hk => hnone k ((heligible k).1 hk)
    simp only [doFetchNotice, field_zero_cons, yesNo?_byte hflag, hnotices, hsearch, popRequest_refuse _ _ h]
    rfl
  case some =>
    have hsearch : s.notices.highest? (flag == 1) = some k :=
      NoticeUnit.highest?_eq_some ((heligible k).2 hk) fun j hj => hleast j ((heligible j).1 hj)
    have hset : pending = (s.notices.records.set k NoticeRecord.clear).pendingSet := NoticeTable.eq_pendingSet fun j => by
      rw [hpending, NoticeTable.get_set]
      split
      · next hjk => simp [hjk, NoticeRecord.clear]
      · next hjk => simp [hjk]
    simp only [doFetchNotice, field_zero_cons, yesNo?_byte hflag, hnotices, hsearch, NoticeDetail.bytes_eq hdetail]
    rw [reply_of_taken (v := s.takeNotice k) (by rw [popRequest_eq h]; rfl) h.run, hset]
    rfl

/-! ## ACK_NOTICE and SET_NOTICE_MASK -/

/-- Settles O58: each by its execution at the head, and ATTN by the eligible kinds. -/
theorem ackArmsAndSetMaskReplacesTheMask : Obligations.AckArmsAndSetMaskReplacesTheMask := by
  unfold Obligations.AckArmsAndSetMaskReplacesTheMask
  intro s tag
  refine ⟨fun rest h => ?ack, fun rest b m h hpower hbits => ?mask, fun hrun p => ⟨⟨s, ?_, rfl⟩, ⟨s, ?_, rfl⟩⟩, ?attn⟩
  case ack =>
    rw [exec_eq_next (k := .ackNotice) (f := fun s => s.doAckNotice tag) rfl h rfl]
    exact congrArg Host.Outcome.next
      (reply_of_taken (v := s.setNotices { s.notices with armed := true }) (by rw [popRequest_eq h]; rfl) h.run _ _ _)
  case mask =>
    have hm : BitVec.ofNat 8 b.toNat &&& 0xFE = m := by
      refine BitVec.eq_of_getLsbD_eq fun i hi => ?_
      have hbyte : (0xFE : Byte).getLsbD i = decide (1 ≤ i) := by revert i; decide
      rw [BitVec.getLsbD_and, hbyte, BitVec.ofNat_toNat, BitVec.setWidth_eq]
      by_cases h1 : 1 ≤ i
      · simp [h1, hbits i h1]
      · obtain rfl : i = 0 := by omega
        rw [hpower]
        simp
    rw [exec_eq_next (k := .setNoticeMask) (f := fun s => s.doSetNoticeMask tag [b]) rfl h rfl]
    simp only [doSetNoticeMask, field_zero_cons, hm]
    exact congrArg Host.Outcome.next
      (reply_of_taken (v := s.setNotices { s.notices with mask := m }) (by rw [popRequest_eq h]; rfl) h.run _ _ _)
  case attn => rw [attn, Bool.and_eq_true, NoticeUnit.any_eligible_iff]
  all_goals
    refine congrArg Host.Outcome.next (executeAs_elsewhere _ _ _ _ _ ?_)
    simp [atHead, isRun, hrun]

/-! ## Reports -/

theorem Channel.ofNat?_above {n : Nat} (h : 8 ≤ n) : Channel.ofNat? n = none := by
  unfold Channel.ofNat?
  split <;> first | rfl | omega

theorem channelFlags_eq (s : State) (c : Channel) : s.channelFlags c =
    (if (s.accum.accounts.get c).version = (s.store.map.get c).version then 0 else 1) |||
      (if s.queued c = true then 2 else 0) ||| (if s.inJob c = true then 4 else 0) |||
      (if (s.capture.channels.get c).filtered = .high then 8 else 0) := by
  have hdirty : s.dirty c = decide ((s.accum.accounts.get c).version ≠ (s.store.map.get c).version) := by
    simp [dirty, bne, beq_eq_decide]
  unfold channelFlags
  rw [hdirty]
  by_cases h1 : (s.accum.accounts.get c).version = (s.store.map.get c).version <;> by_cases h2 : s.queued c = true <;>
    by_cases h3 : s.inJob c = true <;> by_cases h4 : (s.capture.channels.get c).filtered = .high <;>
    simp [h1, h2, h3, h4]

theorem leBytes_one (v : Nat) : leBytes 1 v = [BitVec.ofNat 8 v] := rfl

/-- GET_STATUS's items as a part in RUN reports them (R173). -/
theorem statusPayload_eq (run : s.power.device = .run) : s.statusPayload =
    [1, if s.store.op = none then 1 else 2, if s.store.exhausted = true then 1 else 0,
        (match s.engine.phase with
          | .idle => 0
          | .copy _ _ => 1
          | .mark _ => 2
          | .erase _ _ => 3
          | .count _ => 4),
        if s.service.session = .closed then 0 else 1, BitVec.ofNat 8 s.accum.tariff.toNat,
        if s.config.live.globals.tariffSource = .host then 0 else 1] ++
      leBytes 2 s.freeSlots ++
      [BitVec.ofNat 8 s.erasedSectors, BitVec.ofNat 8 s.sched.queue.length, BitVec.ofNat 8 s.link.credits,
        s.notices.records.pendingSet, if s.notices.armed = true then 1 else 0] ++
      leBytes 2 s.link.discarded ++ leBytes 4 s.config.generation ++ leBytes 4 s.store.nextSequence := by
  have hbusy : BitVec.ofNat 8 (if s.busy = true then 2 else 1) = if s.store.op = none then 1 else 2 := by
    unfold busy
    cases s.store.op <;> rfl
  have hphase : BitVec.ofNat 8 s.engine.phase.code = (match s.engine.phase with
      | .idle => 0
      | .copy _ _ => 1
      | .mark _ => 2
      | .erase _ _ => 3
      | .count _ => 4) := by cases s.engine.phase <;> rfl
  have hsession : BitVec.ofNat 8 s.service.session.code = if s.service.session = .closed then 0 else 1 := by
    cases s.service.session <;> rfl
  have hsource : BitVec.ofNat 8 s.config.live.globals.tariffSource.code =
      if s.config.live.globals.tariffSource = .host then 0 else 1 := by
    cases s.config.live.globals.tariffSource <;> rfl
  simp only [statusPayload, leBytes_one, run, hbusy, hphase, hsession, hsource, boolByte, List.cons_append, List.nil_append,
    List.append_assoc]
  rfl

/-- READ_CHANNEL at the queue head: the channel's payload, or a refusal (R163, R174). -/
theorem exec_readChannel_atHead {b : Byte} (h : AtHead s 0x03 tag [b] rest) :
    exec (.readChannel tag [b]) s = .next (match Channel.ofNat? b.toNat with
      | some c => s.answered rest 0x03 tag .ok (s.channelPayload c)
      | none => s.answered rest 0x03 tag .badArgument []) := by
  rw [exec_eq_next (k := .readChannel) (f := fun s => s.doReadChannel tag [b]) rfl h rfl]
  simp only [doReadChannel, field_zero_cons]
  cases Channel.ofNat? b.toNat with
  | some c => exact congrArg Host.Outcome.next (popRequest_reply .readChannel (Answer.ok (s.channelPayload c)) h)
  | none => exact congrArg Host.Outcome.next (popRequest_refuse .readChannel .badArgument h)

/-- READ_COMMITTED at the queue head: the map entry's payload, or a refusal (R163, R175). -/
theorem exec_readCommitted_atHead {b : Byte} (h : AtHead s 0x04 tag [b] rest) :
    exec (.readCommitted tag [b]) s = .next (match Channel.ofNat? b.toNat with
      | some c => s.answered rest 0x04 tag .ok (s.committedPayload c)
      | none => s.answered rest 0x04 tag .badArgument []) := by
  rw [exec_eq_next (k := .readCommitted) (f := fun s => s.doReadCommitted tag [b]) rfl h rfl]
  simp only [doReadCommitted, field_zero_cons]
  cases Channel.ofNat? b.toNat with
  | some c => exact congrArg Host.Outcome.next (popRequest_reply .readCommitted (Answer.ok (s.committedPayload c)) h)
  | none => exact congrArg Host.Outcome.next (popRequest_refuse .readCommitted .badArgument h)

/-- Settles O52: each report at the head, read item by item. -/
theorem statusAndTotalsRequestsReport : Obligations.StatusAndTotalsRequestsReport := by
  unfold Obligations.StatusAndTotalsRequestsReport
  intro s tag rest
  refine ⟨fun h => ?ping, fun h pending hpending => ?status, fun b h => ⟨fun c hb => ?channel, fun habove => ?channelAbove⟩,
    fun b h => ⟨fun c hb => ⟨fun hnone => ?committedNone, fun d hd => ?committed⟩, fun habove => ?committedAbove⟩⟩
  case ping =>
    rw [exec_eq_next (k := .ping) (f := fun s => s.doPing tag) rfl h rfl]
    exact congrArg Host.Outcome.next (popRequest_reply .ping (Answer.ok pingPayload) h)
  case status =>
    rw [exec_eq_next (k := .getStatus) (f := fun s => s.doGetStatus tag) rfl h rfl, NoticeTable.eq_pendingSet hpending]
    exact congrArg Host.Outcome.next ((popRequest_reply .getStatus (Answer.ok s.statusPayload) h).trans
      (congrArg (s.answered rest 0x02 tag .ok) (statusPayload_eq h.run)))
  case channel =>
    rw [exec_readChannel_atHead h, hb, Channel.ofNat?_toNat]
    simp only [channelPayload, bucketBytes, channelFlags_eq, ← hb, leBytes_one, BitVec.ofNat_toNat, BitVec.setWidth_eq,
      List.append_assoc]
  case channelAbove => rw [exec_readChannel_atHead h, Channel.ofNat?_above habove]
  case committedNone =>
    rw [exec_readCommitted_atHead h, hb, Channel.ofNat?_toNat]
    simp only [committedPayload, hnone, bucketBytes, ← hb, leBytes_one_toNat]
    rfl
  case committed =>
    rw [exec_readCommitted_atHead h, hb, Channel.ofNat?_toNat]
    simp only [committedPayload, hd, bucketBytes, ← hb, designationBytes, leBytes_one, BitVec.ofNat_toNat,
      BitVec.setWidth_eq, List.append_assoc]
    rfl
  case committedAbove => rw [exec_readCommitted_atHead h, Channel.ofNat?_above habove]

end Sys2Proof.Machine
end

section

-- One theorem at a time, as in the tests: many proofs elaborated at once each hold a thread's stack.
set_option Elab.async false

/-! Requests that become host jobs, and the requests of the service session (R163, R177, R179, R182, R183, R185, R186). -/

namespace Sys2Proof.Machine

open State

variable {s : State} {k : RequestKind} {kind tag : Byte} {p : List Byte} {rest : List Request}

/-! ## Fields of a payload -/

@[simp] theorem field_cons_succ (b : Byte) (bs : List Byte) (off n : Nat) : field (b :: bs) (off + 1) n = field bs off n := rfl

theorem field_two (a b : Byte) (bs : List Byte) : field (a :: b :: bs) 0 2 = a.toNat + 256 * b.toNat := by
  simp [field, slice, leNat]

theorem field_four (a b c d : Byte) (bs : List Byte) : field (a :: b :: c :: d :: bs) 0 4 =
    a.toNat + 256 * b.toNat + 65536 * c.toNat + 16777216 * d.toNat := by
  simp only [field, slice, List.drop_zero, List.take_succ_cons, List.take_zero, leNat]
  omega

theorem field_append_leBytes (xs ys : List Byte) {n v : Nat} (hv : v < 256 ^ n) :
    field (xs ++ leBytes n v ++ ys) xs.length n = v := by
  rw [List.append_assoc, field_append_right _ _ _ _ le_rfl, Nat.sub_self, field_leBytes, Nat.mod_eq_of_lt hv]

/-- Four buckets read back wherever they stand (R171). -/
theorem readBuckets_bucketBytes (xs ys : List Byte) (b : PerTariff Bucket) :
    readBuckets (xs ++ bucketBytes b ++ ys) xs.length = b := by
  have hlt : ∀ x : Bucket, x.toNat < 256 ^ 5 := fun x => x.isLt
  have hget : ∀ (us vs : List Byte) (x : Bucket), field (us ++ leBytes 5 x.toNat ++ vs) us.length 5 = x.toNat :=
    fun us vs x => field_append_leBytes us vs (hlt x)
  have h0 := hget xs (leBytes 5 b.t1.toNat ++ leBytes 5 b.t2.toNat ++ leBytes 5 b.t3.toNat ++ ys) b.t0
  have h1 := hget (xs ++ leBytes 5 b.t0.toNat) (leBytes 5 b.t2.toNat ++ leBytes 5 b.t3.toNat ++ ys) b.t1
  have h2 := hget (xs ++ leBytes 5 b.t0.toNat ++ leBytes 5 b.t1.toNat) (leBytes 5 b.t3.toNat ++ ys) b.t2
  have h3 := hget (xs ++ leBytes 5 b.t0.toNat ++ leBytes 5 b.t1.toNat ++ leBytes 5 b.t2.toNat) ys b.t3
  simp only [List.length_append, leBytes_length, List.append_assoc, Nat.reduceAdd] at h0 h1 h2 h3
  simp only [readBuckets, bucketBytes, List.append_assoc, h0, h1, h2, h3, BitVec.ofNat_toNat, BitVec.setWidth_eq]

/-! ## Jobs -/

theorem popRequest_acceptJob (h : AtHead s kind tag p rest) (w : JobSlot) (j : JobState) :
    s.popRequest.acceptJob w tag j = s.accepted rest w tag j := by
  rw [popRequest_eq h]
  rfl

theorem popRequest_freeJobSlot? (s : State) : s.popRequest.freeJobSlot? = s.freeJobSlot? := rfl

theorem Sector.ofNat?_toNat (k : Sector) : Sector.ofNat? k.toNat = some k := by
  cases k with
  | ring r => exact Sector.ofNat?_toNat_ring r
  | config c => cases c <;> rfl

theorem Sector.ofNat?_above {n : Nat} (h : 15 < n) : Sector.ofNat? n = none := by
  unfold Sector.ofNat?
  split <;> first | rfl | omega

/-- READ_SLOT's place is no slot of the array (R177). -/
theorem doReadSlot_refused {a b : Byte} (h : AtHead s 0x06 tag [a, b] rest) (hbad : 15 < a.toNat ∨ 31 < b.toNat) :
    s.popRequest.doReadSlot tag [a, b] = s.answered rest 0x06 tag .badArgument [] := by
  unfold doReadSlot
  simp only [field_zero_cons, field_one_cons_cons]
  split
  · next k hk hslot =>
    obtain ha | hb := hbad
    · rw [Sector.ofNat?_above ha] at hk
      cases hk
    · have hle := of_decide_eq_true hslot
      omega
  · exact popRequest_refuse .readSlot .badArgument h

/-- READ_SLOT of a slot of the array (R80, R177). -/
theorem doReadSlot_placed {a b : Byte} {k : Sector} (h : AtHead s 0x06 tag [a, b] rest) (ha : a.toNat = k.toNat)
    (hb : b.toNat ≤ 31) : s.popRequest.doReadSlot tag [a, b] = match s.freeJobSlot? with
      | some w => (s.accepted rest w tag (.readSlot k b.toNat)).arbiter
      | none => s.answered rest 0x06 tag .jobsFull [] := by
  unfold doReadSlot
  simp only [field_zero_cons, field_one_cons_cons, ha, Sector.ofNat?_toNat, hb, decide_true, popRequest_freeJobSlot?,
    popRequest_acceptJob h]
  cases s.freeJobSlot? with
  | some w => rfl
  | none => exact popRequest_refuse .readSlot .jobsFull h

/-- Settles O55: each request's checks in order, and its job in the first free entry. -/
theorem jobRequestsAreCheckedAndAccepted : Obligations.JobRequestsAreCheckedAndAccepted := by
  unfold Obligations.JobRequestsAreCheckedAndAccepted
  intro s tag rest
  refine ⟨fun a b h => ?readSlot, fun b h => ?commit, fun b new h => ?load⟩
  case readSlot =>
    dsimp only
    rw [exec_eq_next (k := .readSlot) (f := fun s => s.doReadSlot tag [a, b]) rfl h rfl]
    refine ⟨fun hbad => by rw [doReadSlot_refused h hbad], fun k ha hb => ⟨fun hfull => ?_, fun w hw => ?_⟩⟩
    · rw [doReadSlot_placed h ha hb, freeJobSlot_of_jobsFull s hfull]
    · rw [doReadSlot_placed h ha hb, freeJobSlot_of_freeJob s w hw]
  case commit =>
    dsimp only
    rw [exec_eq_next (k := .commit) (f := fun s => s.doCommit tag [b]) rfl h rfl]
    have hmask : BitVec.ofNat 8 b.toNat = b := by simp
    simp only [doCommit, field_zero_cons, hmask, popRequest_freeJobSlot?]
    refine ⟨fun hzero => ?_, fun hb hfull => ?_, fun hb w hw => ?_⟩
    · rw [if_pos hzero, popRequest_refuse _ _ h]
      rfl
    · rw [if_neg hb, freeJobSlot_of_jobsFull s hfull]
      exact congrArg Host.Outcome.next (popRequest_refuse .commit .jobsFull h)
    · rw [if_neg hb, freeJobSlot_of_freeJob s w hw]
      simp only [popRequest_acceptJob h]
      rfl
  case load =>
    dsimp only
    have hlength : (b :: bucketBytes new).length = RequestKind.loadTotals.payloadLength := by
      simp [bucketBytes, RequestKind.payloadLength]
    have hbuckets : readBuckets (b :: bucketBytes new) 1 = new := by
      simpa using readBuckets_bucketBytes [b] [] new
    rw [exec_eq_next (k := .loadTotals) (f := fun s => s.doLoadTotals tag (b :: bucketBytes new)) rfl h hlength]
    simp only [doLoadTotals, field_zero_cons, popRequest_freeJobSlot?, hbuckets]
    have hopen : s.popRequest.sessionOpen = s.sessionOpen := rfl
    refine ⟨fun hclosed => ?_, fun n hn => ⟨fun habove => ?_, fun c hc => ⟨fun hfull => ?_, fun w hw => ?_⟩⟩⟩
    · rw [hopen, if_neg (by simp [sessionOpen, hclosed])]
      exact congrArg Host.Outcome.next (popRequest_refuse .loadTotals .needsService h)
    all_goals rw [hopen, if_pos (by simp [sessionOpen, hn])]
    · rw [Channel.ofNat?_above (by omega)]
      exact congrArg Host.Outcome.next (popRequest_refuse .loadTotals .badArgument h)
    · rw [hc, Channel.ofNat?_toNat, freeJobSlot_of_jobsFull s hfull]
      exact congrArg Host.Outcome.next (popRequest_refuse .loadTotals .jobsFull h)
    · rw [hc, Channel.ofNat?_toNat, freeJobSlot_of_freeJob s w hw]
      simp only [popRequest_acceptJob h]
      generalize s.accepted rest w tag (.loadWait c) = u
      rfl

/-! ## The service session -/

theorem exec_discardStaged_atHead (h : AtHead s 0x26 tag [] rest) :
    exec (.discardStaged tag []) s = .next (s.popRequest.doDiscardStaged tag) :=
  exec_eq_next (k := .discardStaged) (f := fun s => s.doDiscardStaged tag) rfl h rfl

theorem sessionOpen_of_opened {n : Nat} (hn : s.service.session = .opened n) : s.sessionOpen = true := by
  simp [sessionOpen, hn]

theorem sessionOpen_of_closed (hclosed : s.service.session = .closed) : ¬ s.sessionOpen = true := by
  simp [sessionOpen, hclosed]

/-- Settles O59: each request of the session at the head, by the session's state. -/
theorem sessionRequestsOpenCloseDiscardAndApply : Obligations.SessionRequestsOpenCloseDiscardAndApply := by
  unfold Obligations.SessionRequestsOpenCloseDiscardAndApply
  intro s tag rest
  dsimp only
  have hservice : s.popRequest.service = s.service := rfl
  have hopen : s.popRequest.sessionOpen = s.sessionOpen := rfl
  refine ⟨fun h => ?openService, fun h => ?closeService, fun h => ?discard, fun h => ?apply⟩
  case openService =>
    rw [exec_eq_next (k := .openService) (f := fun s => s.doOpenService tag) rfl h rfl]
    simp only [doOpenService, hservice]
    refine ⟨fun n hn => ?_, fun hclosed hactive => ?_, fun hclosed hinactive => ?_⟩
    · simp only [hn]
      exact congrArg Host.Outcome.next
        (reply_of_taken (v := s.setService { s.service with session := .opened 0 }) (by rw [popRequest_eq h]; rfl) h.run
          .openService tag (Answer.ok []))
    · simp only [hclosed]
      rw [if_pos hactive]
      exact congrArg Host.Outcome.next
        (reply_of_taken
          (u := (s.popRequest.setService { s.service with session := .opened 0 }).setConfig
            { s.config with staged := s.config.live })
          (v := (s.setService { s.service with session := .opened 0 }).setConfig { s.config with staged := s.config.live })
          (by rw [popRequest_eq h]; rfl) h.run .openService tag (Answer.ok []))
    · simp only [hclosed, hinactive, Bool.false_eq_true, if_false]
      exact congrArg Host.Outcome.next (popRequest_refuse .openService .svcLineInactive h)
  case closeService =>
    rw [exec_eq_next (k := .closeService) (f := fun s => s.doCloseService tag) rfl h rfl]
    simp only [doCloseService, closeSession, hservice]
    refine ⟨fun n hn => ?_, fun hclosed => ?_⟩
    · simp only [hn]
      exact congrArg Host.Outcome.next
        (reply_of_taken
          (u := (s.popRequest.setService { s.service with session := .closed }).setConfig
            { s.config with staged := s.config.live })
          (v := (s.setService { s.service with session := .closed }).setConfig { s.config with staged := s.config.live })
          (by rw [popRequest_eq h]; rfl) h.run .closeService tag (Answer.ok []))
    · simp only [hclosed]
      exact congrArg Host.Outcome.next (popRequest_reply .closeService (Answer.ok []) h)
  case discard =>
    rw [exec_discardStaged_atHead h, doDiscardStaged, hopen]
    refine ⟨fun n hn => ?_, fun hclosed => ?_⟩
    · rw [if_pos (sessionOpen_of_opened hn)]
      exact congrArg Host.Outcome.next
        (reply_of_taken (v := s.setStaged s.config.live) (by rw [popRequest_eq h]; rfl) h.run .discardStaged tag
          (Answer.ok []))
    · rw [if_neg (sessionOpen_of_closed hclosed)]
      exact congrArg Host.Outcome.next (popRequest_refuse .discardStaged .needsService h)
  case apply =>
    rw [exec_eq_next (k := .applyConfig) (f := fun s => s.doApplyConfig tag) rfl h rfl, doApplyConfig, hopen,
      popRequest_config, popRequest_freeJobSlot?]
    refine ⟨fun hclosed => ?_, fun n hn => ⟨fun hlimit => ?_, fun hbelow => ⟨fun hfull => ?_, fun w hw => ?_⟩⟩⟩
    · rw [if_neg (sessionOpen_of_closed hclosed)]
      exact congrArg Host.Outcome.next (popRequest_refuse .applyConfig .needsService h)
    all_goals rw [if_pos (sessionOpen_of_opened hn)]
    · rw [if_pos (by exact hlimit)]
      exact congrArg Host.Outcome.next (popRequest_refuse .applyConfig .storeExhausted h)
    all_goals rw [if_neg (by exact Nat.not_le.2 hbelow)]
    · rw [freeJobSlot_of_jobsFull s hfull]
      exact congrArg Host.Outcome.next (popRequest_refuse .applyConfig .jobsFull h)
    · rw [freeJobSlot_of_freeJob s w hw]
      simp only [popRequest_acceptJob h]

/-! ## Staged settings -/

theorem Mode.ofCode?_code (m : Mode) : Mode.ofCode? m.code = some m := by cases m <;> rfl

theorem Mode.ofCode?_above {n : Nat} (h : 2 < n) : Mode.ofCode? n = none := by
  unfold Mode.ofCode?
  split <;> first | rfl | omega

theorem Polarity.ofCode?_code (p : Polarity) : Polarity.ofCode? p.code = some p := by cases p <;> rfl

theorem Polarity.ofCode?_above {n : Nat} (h : 1 < n) : Polarity.ofCode? n = none := by
  unfold Polarity.ofCode?
  split <;> first | rfl | omega

theorem TariffSource.ofCode?_code (t : TariffSource) : TariffSource.ofCode? t.code = some t := by cases t <;> rfl

theorem TariffSource.ofCode?_above {n : Nat} (h : 1 < n) : TariffSource.ofCode? n = none := by
  unfold TariffSource.ofCode?
  split <;> first | rfl | omega

theorem TariffSource.ofCode?_byte {b : Byte} (h : b.toNat ≤ 1) :
    TariffSource.ofCode? b.toNat = some (if b = 0 then .host else .lines) := by
  have hb : b = 0 ∨ b = 1 := by bv_omega
  obtain rfl | rfl := hb <;> rfl

/-- A channel's settings that are in range are read (R100). -/
theorem readChannelConfig_eq_some {bs : List Byte} {off : Nat} {m : Mode} {p : Polarity} (hm : field bs off 1 = m.code)
    (hp : field bs (off + 1) 1 = p.code) (hf : field bs (off + 2) 1 ≤ 15) (hw : 1 ≤ field bs (off + 3) 2) :
    readChannelConfig bs off = some { mode := m, polarity := p, filter := field bs (off + 2) 1, weight := field bs (off + 3) 2
                                      threshold := field bs (off + 5) 4 } := by
  simp only [readChannelConfig, hm, hp, Mode.ofCode?_code, Polarity.ofCode?_code, hf, hw, true_and, if_true]

/-- A channel's settings of which one is out of range are not (R100). -/
theorem readChannelConfig_eq_none {bs : List Byte} {off : Nat}
    (h : 2 < field bs off 1 ∨ 1 < field bs (off + 1) 1 ∨ 15 < field bs (off + 2) 1 ∨ field bs (off + 3) 2 = 0) :
    readChannelConfig bs off = none := by
  unfold readChannelConfig
  split
  · next m p hm hp =>
    refine if_neg fun hrange => ?_
    obtain hbad | hbad | hbad | hbad := h
    · rw [Mode.ofCode?_above hbad] at hm
      cases hm
    · rw [Polarity.ofCode?_above hbad] at hp
      cases hp
    · omega
    · omega
  · rfl

/-- The globals that are in range are read (R100). -/
theorem readGlobalConfig_eq_some {bs : List Byte} {off : Nat} {t : TariffSource} {y : Bool}
    (ht : TariffSource.ofCode? (field bs (off + 2) 1) = some t) (hy : yesNo? (field bs (off + 3) 1) = some y)
    (hi : field bs off 2 ≤ 3600) (hlo : 10 ≤ field bs (off + 4) 2) (hhi : field bs (off + 4) 2 ≤ 600) :
    readGlobalConfig bs off = some { commitInterval := field bs off 2, tariffSource := t, commitOnTariff := y
                                     idleTimeout := field bs (off + 4) 2 } := by
  simp only [readGlobalConfig, ht, hy, hi, hlo, hhi, and_self, if_true]

/-- The globals of which one is out of range are not (R100). -/
theorem readGlobalConfig_eq_none {bs : List Byte} {off : Nat}
    (h : 3600 < field bs off 2 ∨ 1 < field bs (off + 2) 1 ∨ 1 < field bs (off + 3) 1 ∨ field bs (off + 4) 2 < 10 ∨
      600 < field bs (off + 4) 2) : readGlobalConfig bs off = none := by
  unfold readGlobalConfig
  split
  · next t y ht hy =>
    refine if_neg fun hrange => ?_
    obtain hbad | hbad | hbad | hbad | hbad := h
    · omega
    · rw [TariffSource.ofCode?_above hbad] at ht
      cases ht
    · rw [yesNo?_above hbad] at hy
      cases hy
    · omega
    · omega
  · rfl

theorem exec_stageChannel_atHead {bs : List Byte} (h : AtHead s 0x22 tag bs rest) (hbs : bs.length = 10) :
    exec (.stageChannel tag bs) s = .next (s.popRequest.doStageChannel tag bs) :=
  exec_eq_next (k := .stageChannel) (f := fun s => s.doStageChannel tag bs) rfl h hbs

theorem exec_stageGlobals_atHead {bs : List Byte} (h : AtHead s 0x23 tag bs rest) (hbs : bs.length = 6) :
    exec (.stageGlobals tag bs) s = .next (s.popRequest.doStageGlobals tag bs) :=
  exec_eq_next (k := .stageGlobals) (f := fun s => s.doStageGlobals tag bs) rfl h hbs

/-- STAGE_CHANNEL of a channel there is not, or of settings out of range (R117, R183). -/
theorem doStageChannel_refused {bs : List Byte} (h : AtHead s 0x22 tag bs rest) (hopen : s.sessionOpen = true)
    (hbad : Channel.ofNat? (field bs 0 1) = none ∨ readChannelConfig bs 1 = none) :
    s.popRequest.doStageChannel tag bs = s.answered rest 0x22 tag .badArgument [] := by
  unfold doStageChannel
  rw [if_pos (by exact hopen)]
  split
  · next hc hk =>
    obtain hnone | hnone := hbad
    · rw [hnone] at hc
      cases hc
    · rw [hnone] at hk
      cases hk
  · exact popRequest_refuse .stageChannel .badArgument h

/-- STAGE_CHANNEL of settings in range (R117, R183). -/
theorem doStageChannel_staged {bs : List Byte} {c : Channel} {x : ChannelConfig} (h : AtHead s 0x22 tag bs rest)
    (hopen : s.sessionOpen = true) (hc : Channel.ofNat? (field bs 0 1) = some c) (hx : readChannelConfig bs 1 = some x) :
    s.popRequest.doStageChannel tag bs =
      (s.setStaged { s.config.staged with channels := s.config.staged.channels.set c x }).answered rest 0x22 tag .ok [] := by
  unfold doStageChannel
  rw [if_pos (by exact hopen), hc, hx]
  exact reply_of_taken
    (u := s.popRequest.setStaged { s.config.staged with channels := s.config.staged.channels.set c x })
    (v := s.setStaged { s.config.staged with channels := s.config.staged.channels.set c x })
    (by rw [popRequest_eq h]; rfl) h.run .stageChannel tag (Answer.ok [])

/-- STAGE_GLOBALS of settings in range (R117, R183). -/
theorem doStageGlobals_staged {bs : List Byte} {g : GlobalConfig} (h : AtHead s 0x23 tag bs rest)
    (hopen : s.sessionOpen = true) (hg : readGlobalConfig bs 0 = some g) : s.popRequest.doStageGlobals tag bs =
      (s.setStaged { s.config.staged with globals := g }).answered rest 0x23 tag .ok [] := by
  unfold doStageGlobals
  rw [if_pos (by exact hopen), hg]
  exact reply_of_taken (u := s.popRequest.setStaged { s.config.staged with globals := g })
    (v := s.setStaged { s.config.staged with globals := g }) (by rw [popRequest_eq h]; rfl) h.run .stageGlobals tag
    (Answer.ok [])

/-- Settles O60: the ten and the six bytes read field by field, in range or not. -/
theorem stageRequestsReplaceWholeSettings : Obligations.StageRequestsReplaceWholeSettings := by
  unfold Obligations.StageRequestsReplaceWholeSettings
  intro s tag rest
  refine ⟨fun b m p f w0 w1 t0 t1 t2 t3 h => ?channel, fun i0 i1 g y d0 d1 h => ?globals⟩
  case channel =>
    dsimp only
    rw [exec_stageChannel_atHead h rfl]
    have hmode : field [b, m, p, f, w0, w1, t0, t1, t2, t3] 1 1 = m.toNat := field_zero_cons _ _
    have hpolarity : field [b, m, p, f, w0, w1, t0, t1, t2, t3] 2 1 = p.toNat := field_zero_cons _ _
    have hfilter : field [b, m, p, f, w0, w1, t0, t1, t2, t3] 3 1 = f.toNat := field_zero_cons _ _
    have hweight : field [b, m, p, f, w0, w1, t0, t1, t2, t3] 4 2 = w0.toNat + 256 * w1.toNat := field_two _ _ _
    have hthreshold : field [b, m, p, f, w0, w1, t0, t1, t2, t3] 6 4 =
        t0.toNat + 256 * t1.toNat + 65536 * t2.toNat + 16777216 * t3.toNat := field_four _ _ _ _ _
    refine ⟨fun hclosed => ?_, fun n hn => ⟨fun hbad => ?_, fun c mode polarity hb hm hp hf hw => ?_⟩⟩
    · rw [doStageChannel, if_neg (by exact sessionOpen_of_closed hclosed)]
      exact congrArg Host.Outcome.next (popRequest_refuse .stageChannel .needsService h)
    · rw [doStageChannel_refused h (sessionOpen_of_opened hn)]
      obtain hb | hm | hp | hf | ⟨rfl, rfl⟩ := hbad
      · exact .inl (by rw [field_zero_cons, Channel.ofNat?_above (by omega)])
      · exact .inr (readChannelConfig_eq_none (.inl (by rw [hmode]; exact hm)))
      · exact .inr (readChannelConfig_eq_none (.inr (.inl (by rw [hpolarity]; exact hp))))
      · exact .inr (readChannelConfig_eq_none (.inr (.inr (.inl (by rw [hfilter]; exact hf)))))
      · exact .inr (readChannelConfig_eq_none (.inr (.inr (.inr (by rw [hweight]; rfl)))))
    · have hw : 1 ≤ w0.toNat + 256 * w1.toNat := by
        obtain hw | hw := hw <;> bv_omega
      have hx : readChannelConfig [b, m, p, f, w0, w1, t0, t1, t2, t3] 1 = _ :=
        readChannelConfig_eq_some (m := mode) (p := polarity) (by rw [hmode, hm]; cases mode <;> rfl)
          (by rw [hpolarity, hp]; cases polarity <;> rfl) (by rw [hfilter]; exact hf) (by rw [hweight]; exact hw)
      rw [doStageChannel_staged h (sessionOpen_of_opened hn) (by rw [field_zero_cons, hb, Channel.ofNat?_toNat]) hx, hfilter,
        hweight, hthreshold]
      rfl
  case globals =>
    dsimp only
    rw [exec_stageGlobals_atHead h rfl]
    have hinterval : field [i0, i1, g, y, d0, d1] 0 2 = i0.toNat + 256 * i1.toNat := field_two _ _ _
    have hsource : field [i0, i1, g, y, d0, d1] 2 1 = g.toNat := field_zero_cons _ _
    have hyes : field [i0, i1, g, y, d0, d1] 3 1 = y.toNat := field_zero_cons _ _
    have hidle : field [i0, i1, g, y, d0, d1] 4 2 = d0.toNat + 256 * d1.toNat := field_two _ _ _
    refine ⟨fun hclosed => ?_, fun n hn => ⟨fun hbad => ?_, fun hi hg hy hlo hhi => ?_⟩⟩
    · rw [doStageGlobals, if_neg (by exact sessionOpen_of_closed hclosed)]
      exact congrArg Host.Outcome.next (popRequest_refuse .stageGlobals .needsService h)
    · rw [doStageGlobals, if_pos (by exact sessionOpen_of_opened hn),
        readGlobalConfig_eq_none (by rw [hinterval, hsource, hyes, hidle]; exact hbad)]
      exact congrArg Host.Outcome.next (popRequest_refuse .stageGlobals .badArgument h)
    · have hx : readGlobalConfig [i0, i1, g, y, d0, d1] 0 = _ :=
        readGlobalConfig_eq_some (by rw [hsource]; exact TariffSource.ofCode?_byte hg)
          (by rw [hyes]; exact yesNo?_byte hy) (by rw [hinterval]; exact hi) (by rw [hidle]; exact hlo)
          (by rw [hidle]; exact hhi)
      rw [doStageGlobals_staged h (sessionOpen_of_opened hn) hx, hinterval, hidle]
      rfl

end Sys2Proof.Machine
end

section

-- One theorem at a time, as in the tests: many proofs elaborated at once each hold a thread's stack.
set_option Elab.async false

/-! The serial line: the receiver, admission, and the replies sent (R121, R127, R156 to R161, R166). -/

namespace Sys2Proof.Machine

open State

variable {s : State}

/-! ## The receiver -/

theorem exec_characterReceived (halive : s.alive = true) (b : Byte) (f : Bool) :
    exec (.characterReceived b f) s = .next (s.takeCharacter b f) := by
  simp only [exec, execCharacterReceived, halive, if_true]

/-- A framing error outside HUNT discards the frame with CHECK (R156). -/
theorem takeCharacter_framingError (hr : s.link.receiver ≠ .hunt) (b : Byte) :
    s.takeCharacter b true = (s.setReceiver .hunt none).discard .check := by
  unfold takeCharacter
  split
  · next h => exact absurd h hr
  all_goals simp only [if_true]

theorem takeCharacter_hunt (hr : s.link.receiver = .hunt) (b : Byte) (f : Bool) :
    s.takeCharacter b f = if (!f && b == 0xC3) = true then s.setReceiver .length (some 0) else s := by
  simp only [takeCharacter, hr]

theorem takeCharacter_length (hr : s.link.receiver = .length) (b : Byte) : s.takeCharacter b false =
    if 2 ≤ b.toNat ∧ b.toNat ≤ 62 then s.setReceiver (.body b.toNat []) (some 0)
    else (s.setReceiver .hunt none).discard .length := by
  simp only [takeCharacter, hr, Bool.false_eq_true, if_false]

theorem takeCharacter_body {len : Nat} {stored : List Byte} (hr : s.link.receiver = .body len stored) (b : Byte) :
    s.takeCharacter b false = if len ≤ stored.length + 1 then s.setReceiver (.check len (stored ++ [b]) none) (some 0)
      else s.setReceiver (.body len (stored ++ [b])) (some 0) := by
  simp only [takeCharacter, hr, Bool.false_eq_true, if_false]

theorem takeCharacter_firstCheck {len : Nat} {stored : List Byte} (hr : s.link.receiver = .check len stored none) (b : Byte) :
    s.takeCharacter b false = s.setReceiver (.check len stored (some b)) (some 0) := by
  simp only [takeCharacter, hr, Bool.false_eq_true, if_false]

theorem takeCharacter_lastCheck {len : Nat} {stored : List Byte} {first : Byte}
    (hr : s.link.receiver = .check len stored (some first)) (b : Byte) :
    s.takeCharacter b false = s.completeFrame len stored first b := by
  simp only [takeCharacter, hr, Bool.false_eq_true, if_false]

theorem completeFrame_bad {len : Nat} {stored : List Byte} {first last : Byte}
    (h : crcBytes (BitVec.ofNat 8 len :: stored) ≠ [first, last]) :
    s.completeFrame len stored first last = (s.setReceiver .hunt none).discard .check := if_neg h

theorem completeFrame_good {len : Nat} {kind tag first last : Byte} {payload : List Byte}
    (h : crcBytes (BitVec.ofNat 8 len :: kind :: tag :: payload) = [first, last]) :
    s.completeFrame len (kind :: tag :: payload) first last =
      (s.setReceiver .hunt none).admitRequest { kind := kind, tag := tag, payload := payload } := if_pos h

/-- Settles O48: the receiver's state by state. -/
theorem receiverTakesEachCharacter : Obligations.ReceiverTakesEachCharacter := by
  unfold Obligations.ReceiverTakesEachCharacter
  intro s b halive
  dsimp only
  simp only [exec_characterReceived halive]
  refine ⟨fun hr => ⟨fun hb => ?_, fun hb => ?_, ?_⟩, fun hr => ?_, fun hr => ⟨fun hlo hhi => ?_, fun hbad => ?_⟩,
    fun len stored hr => ⟨fun hmore => ?_, fun hlast => ?_⟩, fun len stored hr => ?_,
    fun len stored first hr => ⟨fun hcrc => ?_, fun kind tag payload hstored hcrc => ?_⟩, fun n hgap hn => ?_⟩
  · rw [takeCharacter_hunt hr, if_pos (by simp [hb])]
    rfl
  · rw [takeCharacter_hunt hr, if_neg (by simpa using hb)]
  · rw [takeCharacter_hunt hr]
    rfl
  · rw [takeCharacter_framingError hr]
    rfl
  · rw [takeCharacter_length hr, if_pos ⟨hlo, hhi⟩]
    rfl
  · rw [takeCharacter_length hr, if_neg (by omega)]
    rfl
  · rw [takeCharacter_body hr, if_neg (by omega)]
    rfl
  · rw [takeCharacter_body hr, if_pos hlast]
    rfl
  · rw [takeCharacter_firstCheck hr]
    rfl
  · rw [takeCharacter_lastCheck hr, completeFrame_bad hcrc]
    rfl
  · subst hstored
    rw [takeCharacter_lastCheck hr, completeFrame_good hcrc]
    rfl
  · have hdue : s.gapDue = true := by
      simp only [gapDue, halive, hgap, Option.any_some, Bool.true_and, decide_eq_true_eq]
      exact hn
    simp only [exec, execGapTimerExpiry, hdue, if_true]
    rfl

/-! ## Admission -/

/-- The idle timer of an OPEN session restarts (R114). -/
theorem restartIdle_eq (s : State) : s.restartIdle = s.setService { s.service with
    session := match s.service.session with
      | .closed => .closed
      | .opened _ => .opened 0 } := by
  unfold restartIdle
  split
  · next h =>
    simp only [h]
    rw [← h]
    rfl
  · next h => simp only [h]

theorem admitRequest_elsewhere (hrun : s.power.device ≠ .run) (r : Request) : s.admitRequest r = s.discard .state := if_pos hrun

theorem admitRequest_full (hrun : s.power.device = .run) (hfull : 4 ≤ s.link.requests.length ∨ 6 ≤ s.link.credits)
    (r : Request) : s.admitRequest r = s.discard .noRoom := by
  unfold admitRequest
  rw [if_neg (by simp [hrun])]
  by_cases hrequests : 4 ≤ s.link.requests.length
  · rw [if_pos (by exact hrequests)]
  · rw [if_neg (by exact hrequests), if_pos (by exact hfull.resolve_left hrequests)]

theorem admitRequest_room (hrun : s.power.device = .run) (hrequests : s.link.requests.length < 4) (hcredits : s.link.credits < 6)
    (r : Request) : s.admitRequest r =
      (s.setLink { s.link with requests := s.link.requests ++ [r], credits := s.link.credits + 1 }).restartIdle := by
  unfold admitRequest
  rw [if_neg (by simp [hrun]), if_neg (by exact Nat.not_le.2 hrequests), if_neg (by exact Nat.not_le.2 hcredits)]

theorem rdy_iff : s.rdy = true ↔ s.power.device = .run ∧ s.link.requests.length < 4 ∧ s.link.credits < 6 := by
  simp only [rdy, isRun, Bool.and_eq_true, beq_iff_eq, and_assoc]
  exact and_congr_right fun _ => and_congr decide_eq_true_iff decide_eq_true_iff

theorem exec_requestFrame {len : Nat} {stored : List Byte} {first : Byte} (halive : s.alive = true)
    (hr : s.link.receiver = .check len stored (some first)) (last : Byte) :
    exec (.requestFrame last) s = .next (s.completeFrame len stored first last) := by
  simp only [exec, execRequestFrame, halive, hr]

/-- Settles O49: the row is the last check byte's, and admission by its tests in order. -/
theorem goodFramesAreAdmittedByTheTests : Obligations.GoodFramesAreAdmittedByTheTests := by
  unfold Obligations.GoodFramesAreAdmittedByTheTests
  intro s len kind tag first last payload halive hr hcrc
  dsimp only
  rw [exec_requestFrame halive hr, exec_characterReceived halive, takeCharacter_lastCheck hr, completeFrame_good hcrc]
  refine ⟨rfl, fun hrun => ?_, fun hrun hfull => ?_, fun hrun hrequests hcredits => ?_, rdy_iff⟩
  · rw [admitRequest_elsewhere (by exact hrun)]
    rfl
  · rw [admitRequest_full (by exact hrun) (by exact hfull)]
    rfl
  · rw [admitRequest_room (by exact hrun) (by exact hrequests) (by exact hcredits), restartIdle_eq]
    rfl

/-! ## A whole frame -/

theorem receive_cons (b : Byte) (bs : List Byte) (halive : s.alive = true) :
    receive (b :: bs) s = receive bs (s.takeCharacter b false) := by
  simp only [receive, List.foldl_cons, exec_characterReceived halive]

theorem receive_nil (s : State) : receive [] s = s := rfl

/-- The bytes of a body, from KIND to the end of the payload, are stored one by one (R156). -/
theorem receive_body {len : Nat} (rest : List Byte) : ∀ (bs stored : List Byte) (s : State), bs ≠ [] → s.alive = true →
    stored.length + bs.length = len →
    receive (bs ++ rest) (s.setReceiver (.body len stored) (some 0)) =
      receive rest (s.setReceiver (.check len (stored ++ bs) none) (some 0))
  | [], _, _, h, _, _ => absurd rfl h
  | b :: bs, stored, s, _, halive, hlen => by
    rw [List.cons_append, receive_cons _ _ (by exact halive), takeCharacter_body rfl]
    cases bs with
    | nil =>
      rw [if_pos (by simp at hlen; omega)]
      rfl
    | cons b' bs =>
      rw [if_neg (by simp at hlen; omega)]
      have hmore := receive_body (len := len) rest (b' :: bs) (stored ++ [b]) s (by simp) halive (by simp at hlen ⊢; omega)
      rw [List.append_assoc, List.singleton_append] at hmore
      exact hmore

/-- Settles O50: the frame character by character, its CRC the one it was sent with. -/
theorem wholeFramesAreAdmittedAsSent : Obligations.WholeFramesAreAdmittedAsSent := by
  unfold Obligations.WholeFramesAreAdmittedAsSent
  intro s kind tag payload halive hr hrdy hpayload
  obtain ⟨hrun, hrequests, hcredits⟩ := rdy_iff.1 hrdy
  have hlen : (BitVec.ofNat 8 (payload.length + 2)).toNat = payload.length + 2 := by
    rw [BitVec.toNat_ofNat, Nat.mod_eq_of_lt (by omega)]
  unfold requestFrameBytes
  dsimp only
  generalize hc : crcBytes (BitVec.ofNat 8 (payload.length + 2) :: kind :: tag :: payload) = crc
  obtain ⟨first, last, rfl⟩ : ∃ first last, crc = [first, last] := ⟨_, _, hc.symm⟩
  rw [receive_cons _ _ halive, takeCharacter_hunt hr, if_pos (by decide), List.cons_append, receive_cons _ _ (by exact halive),
    takeCharacter_length rfl, hlen, if_pos (by omega)]
  have hbody := receive_body (len := payload.length + 2) [first, last] (kind :: tag :: payload) [] s (by simp) halive (by simp)
  have hstored : receive (kind :: tag :: payload ++ [first, last])
      ((s.setReceiver .length (some 0)).setReceiver (.body (payload.length + 2) []) (some 0)) = _ := hbody
  rw [hstored, List.nil_append, receive_cons _ _ (by exact halive), takeCharacter_firstCheck rfl,
    receive_cons _ _ (by exact halive), takeCharacter_lastCheck rfl, completeFrame_good hc, receive_nil,
    admitRequest_room (by exact hrun) (by exact hrequests) (by exact hcredits), restartIdle_eq]
  have hlink : s.link = { s.link with receiver := .hunt } := by rw [← hr]
  rw [hlink]
  rfl

end Sys2Proof.Machine
end

section

-- One theorem at a time, as in the tests: many proofs elaborated at once each hold a thread's stack.
set_option Elab.async false

/-! The entry into START, and the arbiter's drains: what a choice leaves of counts and totals (R25, R119, R132, R133). -/

namespace Sys2Proof.Machine

open State

/-! ## The arbiter's drains -/

theorem PerTariff.set_set {α : Type} (v : PerTariff α) (t : Tariff) (a b : α) : (v.set t a).set t b = v.set t b := by
  cases t <;> rfl

theorem Account.drained_drained (a : Account) (t : Tariff) (p w v : Nat) :
    Account.drained (Account.drained a t p w) t 0 v = Account.drained a t p w := by
  simp [Account.drained, PerTariff.set_set]

theorem Account.drained_zero {a : Account} (h : a.delta ≤ 2 ^ 48 - 1) (t : Tariff) (w : Nat) : Account.drained a t 0 w = a := by
  simp [Account.drained, Nat.min_eq_right (show a.delta ≤ Config.maxDelta from h)]

/-- Some channels have been drained, and at most the threshold step has followed. -/
structure SomeDrained (s t : State) : Prop where
  state : t.capture.state = s.capture.state
  tariff : t.accum.tariff = s.accum.tariff
  tsel : t.accum.tsel = s.accum.tsel
  live : t.config.live = s.config.live
  channel : ∀ c, t.capture.channels.get c = s.capture.channels.get c ∧ t.accum.accounts.get c = s.accum.accounts.get c ∨
    t.capture.channels.get c = { s.capture.channels.get c with pending := 0 } ∧ t.accum.accounts.get c = s.drainedAccount c

namespace SomeDrained

variable {s t u : State} {bs : List Block}

theorem of_changes (h : Changes bs s t)
    (hb : Block.capture ∉ bs ∧ Block.accum ∉ bs ∧ Block.config ∉ bs := by decide) : SomeDrained s t where
  state := by rw [h.capture_eq hb.1]
  tariff := by rw [h.accum_eq hb.2.1]
  tsel := by rw [h.accum_eq hb.2.1]
  live := by rw [h.config_eq hb.2.2]
  channel c := .inl ⟨by rw [h.capture_eq hb.1], by rw [h.accum_eq hb.2.1]⟩

theorem refl (s : State) : SomeDrained s s := of_changes (Changes.refl [] s)

theorem of_drained {cs : List Channel} (h : CountsDrained cs s t) : SomeDrained s t where
  state := h.state
  tariff := h.tariff
  tsel := h.tsel
  live := by rw [h.config]
  channel c := by
    rw [h.channel, h.account]
    split
    · exact .inr ⟨rfl, rfl⟩
    · exact .inl ⟨rfl, rfl⟩

theorem drainedAccount_eq (h : SomeDrained s t) {c : Channel} (hk : t.capture.channels.get c = s.capture.channels.get c)
    (ha : t.accum.accounts.get c = s.accum.accounts.get c) : t.drainedAccount c = s.drainedAccount c := by
  simp only [drainedAccount, liveChannel, hk, ha, h.tariff, h.live]

theorem trans (h : SomeDrained s t) (h' : SomeDrained t u) : SomeDrained s u where
  state := h'.state.trans h.state
  tariff := h'.tariff.trans h.tariff
  tsel := h'.tsel.trans h.tsel
  live := h'.live.trans h.live
  channel c := by
    obtain ⟨hk, ha⟩ | ⟨hk, ha⟩ := h.channel c
    · obtain ⟨hk', ha'⟩ | ⟨hk', ha'⟩ := h'.channel c
      · exact .inl ⟨hk'.trans hk, ha'.trans ha⟩
      · exact .inr ⟨by rw [hk', hk], by rw [ha', h.drainedAccount_eq hk ha]⟩
    · refine .inr ?_
      obtain ⟨hk', ha'⟩ | ⟨hk', ha'⟩ := h'.channel c
      · exact ⟨hk'.trans hk, ha'.trans ha⟩
      · refine ⟨by rw [hk', hk], ?_⟩
        rw [ha', drainedAccount, ha, hk, h.tariff]
        exact Account.drained_drained ..

theorem after (h' : SomeDrained t u) (h : SomeDrained s t) : SomeDrained s u := h.trans h'

/-- A channel with nothing pending is not changed. -/
theorem of_pending_zero (h : SomeDrained s t) {c : Channel} (hp : (s.capture.channels.get c).pending = 0)
    (hdelta : (s.accum.accounts.get c).delta ≤ 2 ^ 48 - 1) :
    t.capture.channels.get c = s.capture.channels.get c ∧ t.accum.accounts.get c = s.accum.accounts.get c := by
  obtain hsame | ⟨hk, ha⟩ := h.channel c
  · exact hsame
  · refine ⟨by rw [hk, ← hp], ?_⟩
    rw [ha, drainedAccount, hp, Account.drained_zero hdelta]

end SomeDrained

namespace State

variable (s : State)

theorem startCommit_drained (e : QueueEntry) : SomeDrained s (s.startCommit e) := by
  unfold startCommit
  dsimp only
  refine SomeDrained.after ?_ (.of_drained (s.drainCounts_drained e.channel))
  split
  · exact .trans (.of_changes (setHolder_changes ..)) (.of_changes (nextAttempt_changes ..))
  · exact .of_changes (tellAll_changes ..)

theorem takeHead_drained : SomeDrained s s.takeHead := by
  unfold takeHead
  split
  · exact .of_changes (compactIfReady_changes s)
  · split
    · exact .trans (.of_changes (setSched_changes ..)) (startCommit_drained ..)
    · exact .trans (.of_changes (setSched_changes ..)) (.of_changes (compactIfReady_changes _))

theorem chooseRun_drained : SomeDrained s s.chooseRun := by
  unfold chooseRun
  split
  · exact .of_changes (engineStep_changes s)
  · split
    · exact .of_changes (jobStep_changes ..)
    · split
      · exact .refl s
      · exact s.takeHead_drained

theorem arbitrateRun_drained : ∀ (n : Nat) (s : State), SomeDrained s (arbitrateRun n s)
  | 0, s => .refl s
  | n + 1, s => by
    unfold arbitrateRun
    split
    · exact s.chooseRun_drained.trans (arbitrateRun_drained n _)
    · exact .refl s

theorem arbiterRun_drained : SomeDrained s s.arbiterRun := arbitrateRun_drained _ s

end State

/-! ## The entry into START -/

/-- The entry into START sets what R132 says, whatever stood before. -/
theorem startEntry_entered (s : State) (k : StartCause) : StartEntered (s.startEntry k) k where
  device := rfl
  cause := rfl
  owed := rfl
  replyWait := rfl
  resume := rfl
  pfail := ⟨rfl, rfl⟩
  frozen := rfl
  counts c := by cases c <;> exact ⟨rfl, rfl, rfl⟩
  totals c := by cases c <;> rfl
  tsel := ⟨rfl, rfl, rfl⟩
  sched := rfl
  store := ⟨rfl, rfl⟩
  engine := rfl
  session := rfl
  svc := ⟨rfl, rfl⟩
  notices k := by cases k <;> rfl
  armed := ⟨rfl, rfl⟩
  queues := ⟨rfl, rfl, rfl⟩
  idle := ⟨rfl, rfl, rfl⟩
  receiver := ⟨rfl, rfl⟩

/-- START's first read leaves the entry's state (R133). -/
theorem StartEntered.beginPhases {s : State} {k : StartCause} (h : StartEntered s k) : StartEntered s.beginPhases k where
  device := h.device
  cause := h.cause
  owed := h.owed
  replyWait := h.replyWait
  resume := h.resume
  pfail := h.pfail
  frozen := h.frozen
  counts := h.counts
  totals := h.totals
  tsel := h.tsel
  sched := h.sched
  store := h.store
  engine := h.engine
  session := h.session
  svc := h.svc
  notices := h.notices
  armed := h.armed
  queues := h.queues
  idle := h.idle
  receiver := h.receiver

theorem beginPhases_firstRead (s : State) (k : StartCause) : FirstRead (s.startEntry k).beginPhases := ⟨rfl, rfl, rfl⟩

/-- An owed restart enters START and begins its first read, with an unbroken timebase (R127, R129). -/
theorem owedRestart_entered (s : State) : StartEntered s.owedRestart .restart ∧ FirstRead s.owedRestart ∧
    s.owedRestart.timebase = s.timebase ∧ s.owedRestart.array = s.array ∧
    s.owedRestart.link.lineRate = strapRate s.pins :=
  ⟨(startEntry_entered s .restart).beginPhases, beginPhases_firstRead s .restart, rfl, rfl, rfl⟩

/-! ## What a tear spares -/

theorem tear_of_idle {s : State} (hop : s.store.op = none) : s.tear = s := by simp [tear, hop]

/-- A torn operation touches the bytes it concerns, and a program clears bits only (R61). -/
theorem tear_torn {s : State} (h : ArrayLaw s) : Torn s.store.op s.array s.tear.array := by
  have hprogram : ∀ op : Operation,
      (∀ a, ¬ op.covers a →
        Memory.read (Memory.programTorn s.array op.address op.bytes s.free) a = Memory.read s.array a) ∧
      OnlyClears s.array (Memory.programTorn s.array op.address op.bytes s.free) := fun op =>
    ⟨fun a ha => Memory.read_programTorn_outside _ _ _ _ (not_covers_iff.1 ha),
      .of_inside (a := op.address) (n := op.bytes.length) (fun x hx => Memory.read_programTorn_outside _ _ _ _ hx)
        fun i hi => ⟨_, Memory.read_programTorn_inside h op.address op.bytes s.free hi⟩⟩
  cases hop : s.store.op with
  | none => rw [tear_of_idle hop]; rfl
  | some op =>
    unfold tear Torn
    simp only [hop]
    cases hx : op.task with
    | scanRead | copyRead | slotRead => rfl
    | ringErase | configErase =>
      exact fun a ha => read_scramble_outside s op.sector (fun _ hbs => tornErase_length _ hbs) ha
    | recordProgram | confirmProgram | epochProgram | retireProgram | countProgram => exact hprogram op
    | imageProgram =>
      dsimp only
      rw [(setOp_changes _ none).array_eq, setFree_array, setArray_array]
      obtain hcut | ⟨hcut, -⟩ := cutImageProgram_spec (Memory.programTorn s.array op.address op.bytes s.free)
        (Memory.program s.array op.address op.bytes) op.sector <;> rw [hcut]
      · exact ⟨fun a ha => read_endProgram_outside s op .pass ha, endProgram_onlyClears h op .pass⟩
      · exact hprogram op

end Sys2Proof.Machine
end

section

-- One theorem at a time, as in the tests: many proofs elaborated at once each hold a thread's stack.
set_option Elab.async false

/-! The supply, the RESET line and the sent reply: a start (O27, O28, O51). -/

namespace Sys2Proof.Machine

open State

/-! ## The supply -/

/-- What a loss of the supply makes of a part once the operation in progress is torn (R194). -/
def unpowered (s : State) (k : StartCause) : State :=
  let s := s.startEntry k
  let s := s.setConfig ConfigUnit.initial
  let s := s.setAccum { s.accum with tariff := .t0 }
  let s := s.setTimebase { divider := 0, second := 0 }
  s.setSupply { s.supply with powered := false }

theorem loseSupply_eq (s : State) : s.loseSupply = unpowered s.tear s.power.startCause := rfl

theorem unpowered_cause (s : State) (k : StartCause) : (unpowered s k).power.startCause = k := rfl

theorem unpowered_unpowered (s : State) (k : StartCause) : unpowered (unpowered s k) k = unpowered s k := by
  simp only [unpowered, startEntry, takeLines, setSupply, setTimebase, setAccum, setConfig, setService, setPower]
  rfl

theorem loseSupply_loseSupply (s : State) : s.loseSupply.loseSupply = s.loseSupply := by
  have hidle : (unpowered s.tear s.power.startCause).tear = unpowered s.tear s.power.startCause := tear_of_idle rfl
  rw [loseSupply_eq, loseSupply_eq, hidle, unpowered_cause, unpowered_unpowered]

/-- A POWER_ON of a part with supply is a SUPPLY_LOSS and then the POWER_ON (log 14). -/
theorem loseSupply_powerUp (s : State) (p : PinLevels) : s.loseSupply.powerUp p = s.powerUp p := by
  simp only [powerUp, loseSupply_loseSupply]

/-- The part that has its supply again, its pins sampled, before START is entered. -/
def sampled (s : State) (p : PinLevels) : State :=
  let s := (unpowered s s.power.startCause).samplePins p
  s.setSupply { s.supply with powered := true }

theorem powerUp_of_idle {s : State} (hop : s.store.op = none) (p : PinLevels) :
    s.powerUp p = if (sampled s p).supply.resetLine then (sampled s p).startEntry .resetLine
      else ((sampled s p).startEntry .powerOn).beginPhases := by
  unfold powerUp sampled
  rw [loseSupply_eq, tear_of_idle hop]

theorem sampled_supply (s : State) (p : PinLevels) :
    (sampled s p).supply = { powered := true, resetLine := s.supply.resetLine } := rfl

/-- The first samples of the synchronisers stand, and the straps at their pins. -/
theorem sampled_levels (s : State) (p : PinLevels) :
    (∀ c, (sampled s p).capture.channels.get c = CaptureChannel.fresh (p.channels.get c)) ∧
      (sampled s p).accum.tsel.line1 = p.tsel1 ∧ (sampled s p).accum.tsel.line0 = p.tsel0 ∧
      (sampled s p).service.svcSync = activeLow p.svc ∧ (sampled s p).power.pfailSync = activeLow p.pfail ∧
      (sampled s p).pins = { baud1 := p.baud1, baud0 := p.baud0 } :=
  ⟨fun c => by cases c <;> rfl, rfl, rfl, rfl, rfl, rfl⟩

theorem sampled_kept (s : State) (p : PinLevels) : (sampled s p).array = s.array ∧ (sampled s p).pending = s.pending ∧
    (sampled s p).free = s.free := by
  simp [sampled, unpowered, samplePins, startEntry, takeLines]

/-- The entry into START keeps every level at the pins, and the array. -/
theorem startEntry_kept (s : State) (k : StartCause) :
    (∀ c, ((s.startEntry k).capture.channels.get c).sync = (s.capture.channels.get c).sync ∧
      ((s.startEntry k).capture.channels.get c).filtered = (s.capture.channels.get c).filtered) ∧
      (s.startEntry k).accum.tsel.line1 = s.accum.tsel.line1 ∧ (s.startEntry k).accum.tsel.line0 = s.accum.tsel.line0 ∧
      (s.startEntry k).service.svcSync = s.service.svcSync ∧ (s.startEntry k).power.pfailSync = s.power.pfailSync ∧
      (s.startEntry k).pins = s.pins ∧ (s.startEntry k).link.lineRate = s.link.lineRate ∧ (s.startEntry k).array = s.array ∧
      (s.startEntry k).pending = s.pending ∧ (s.startEntry k).free = s.free :=
  ⟨fun c => by cases c <;> exact ⟨rfl, rfl⟩, rfl, rfl, rfl, rfl, rfl, rfl, rfl, rfl, rfl⟩

theorem activeLow_iff (l : Level) : activeLow l = true ↔ l = .low := by cases l <;> decide

theorem strapRate_eq (p : Pins) : strapRate p =
    match p.baud1, p.baud0 with
    | .low, .low => .r9600
    | .low, .high => .r38400
    | .high, .low => .r115200
    | .high, .high => .r460800 := rfl

/-- Without supply no end of an operation, no tick and no character is a happening of the part. -/
theorem exec_end_of_idle {s : State} (hop : s.store.op = none) {c : Instr}
    (hc : (endsProgram c).isSome = true ∨ (endsErase c).isSome = true ∨ c = .scanReadEnd ∨ c = .copyReadEnd ∨
      c = .slotReadEnd) : exec c s = .next s := by
  obtain hc | hc | rfl | rfl | rfl := hc
  · obtain ⟨⟨x, o⟩, hx⟩ := Option.isSome_iff_exists.1 hc
    cases c <;> cases hx <;> exact congrArg Host.Outcome.next (atEnd_of_idle hop _ _)
  · obtain ⟨⟨x, o⟩, hx⟩ := Option.isSome_iff_exists.1 hc
    cases c <;> cases hx <;> exact congrArg Host.Outcome.next (atEnd_of_idle hop _ _)
  all_goals exact congrArg Host.Outcome.next (atEnd_of_idle hop _ _)

/-- Settles O27: a POWER_ON is the entry into START at the sampled pins, and a loss of the supply tears and stops the part. -/
theorem supplyComesUpAndIsLost : Obligations.SupplyComesUpAndIsLost := by
  unfold Obligations.SupplyComesUpAndIsLost
  refine ⟨fun p s _ hline hop => ⟨_, rfl, ?_⟩, fun p s _ hline hop => ⟨_, rfl, ?_⟩, fun p s hpower => ?_,
    fun s hs hpower => ?_⟩
  · have hsupply := sampled_supply s p
    obtain ⟨hsample, htsel1, htsel0, hsvc, hpfail, hpins⟩ := sampled_levels s p
    obtain ⟨harray, hpending, hfree⟩ := sampled_kept s p
    rw [powerUp_of_idle hop]
    generalize sampled s p = u at *
    rw [if_neg (by rw [hsupply, hline]; decide)]
    obtain ⟨klevels, ktsel1, ktsel0, ksvc, kpfail, kpins, -, karray, kpending, kfree⟩ := startEntry_kept u .powerOn
    refine ⟨(startEntry_entered _ _).beginPhases, beginPhases_firstRead _ _, ?_, rfl, kpins.trans hpins, fun c => ?_,
      ktsel1.trans htsel1, ktsel0.trans htsel0, ?_, ?_, ?_, karray.trans harray, kpending.trans hpending, kfree.trans hfree⟩
    · rw [beginPhases_supply, startEntry_supply, hsupply, hline]
    · have hc := klevels c
      rw [hsample] at hc
      exact hc
    · exact (ksvc.trans hsvc).symm ▸ activeLow_iff p.svc
    · exact (kpfail.trans hpfail).symm ▸ activeLow_iff p.pfail
    · exact (congrArg strapRate (kpins.trans hpins)).trans (strapRate_eq _)
  · have hsupply := sampled_supply s p
    have hsample := (sampled_levels s p).1
    obtain ⟨harray, hpending, -⟩ := sampled_kept s p
    rw [powerUp_of_idle hop]
    generalize sampled s p = u at *
    rw [if_pos (by rw [hsupply, hline])]
    obtain ⟨klevels, -, -, -, -, -, -, karray, kpending, -⟩ := startEntry_kept u .resetLine
    refine ⟨startEntry_entered _ _, rfl, ?_, ?_, fun c => ?_, karray.trans harray, kpending.trans hpending⟩
    · rw [alive, startEntry_supply, hsupply, hline]; rfl
    · rw [startEntry_supply, hsupply, hline]
    · have hc := (klevels c).1
      rw [hsample] at hc
      exact hc
  · refine ⟨s.loseSupply, congrArg Host.Outcome.next (if_pos hpower), ?_⟩
    exact congrArg Host.Outcome.next (loseSupply_powerUp s p).symm
  · have ht := tear_changes s
    have halive : s.loseSupply.alive = false := rfl
    refine ⟨s.loseSupply, congrArg Host.Outcome.next (if_pos hpower), ?_, loseSupply_held.2, loseSupply_held.1, ?_, ?_, ?_, ?_,
      fun b f => ?_, fun c hc => exec_end_of_idle loseSupply_held.2 hc⟩
    · rw [← ht.supply_eq]; rfl
    · rw [loseSupply_array]; exact tear_torn hs
    · exact (loseSupply_changes s).pins_eq
    · exact (loseSupply_changes s).pending_eq
    · exact congrArg Host.Outcome.next (if_neg (by rw [halive]; decide))
    · exact congrArg Host.Outcome.next (if_neg (by rw [halive]; decide))

/-! ## The RESET line -/

/-- Settles O28: the RESET line tears and enters START; its release takes the line levels and begins START's first read. -/
theorem resetLineHoldsThePartAndReleaseBegins : Obligations.ResetLineHoldsThePartAndReleaseBegins := by
  unfold Obligations.ResetLineHoldsThePartAndReleaseBegins
  refine ⟨fun s hs hpower hline => ?_, fun s hpower hline => ?_⟩
  · have ht := tear_changes (s.setSupply { s.supply with resetLine := true })
    have htorn := tear_torn (s := s.setSupply { s.supply with resetLine := true }) hs
    refine ⟨((s.setSupply { s.supply with resetLine := true }).tear).startEntry .resetLine, ?_, startEntry_entered _ _, rfl, ?_⟩
    · refine Eq.trans (if_neg (by rw [hline]; decide)) (congrArg Host.Outcome.next (if_pos ?_))
      exact hpower
    have hsupply : ((s.setSupply { s.supply with resetLine := true }).tear).supply =
        { powered := true, resetLine := true } := by
      rw [ht.supply_eq, setSupply_supply, ← hpower]
    obtain ⟨klevels, ktsel1, ktsel0, ksvc, kpfail, kpins, krate, -, kpending, -⟩ :=
      startEntry_kept ((s.setSupply { s.supply with resetLine := true }).tear) .resetLine
    refine ⟨?_, htorn, rfl, ?_, fun c => ?_, ?_, ?_, ?_, ?_, kpins.trans ht.pins_eq, ?_, kpending.trans ht.pending_eq⟩
    · rw [alive, startEntry_supply, hsupply]; rfl
    · rw [startEntry_supply, hsupply]
    · have hc := klevels c
      rw [ht.capture_eq] at hc
      exact hc
    · exact ktsel1.trans (congrArg (fun a : Accumulation => a.tsel.line1) ht.accum_eq)
    · exact ktsel0.trans (congrArg (fun a : Accumulation => a.tsel.line0) ht.accum_eq)
    · exact ksvc.trans (congrArg Service.svcSync ht.service_eq)
    · exact kpfail.trans (congrArg Power.pfailSync ht.power_eq)
    · exact krate.trans (congrArg HostLink.lineRate ht.link_eq)
  · refine (if_pos hline).trans (congrArg Host.Outcome.next ((if_pos ?_).trans ?_))
    · exact hpower
    · cases s with
      | mk pending supply =>
      cases supply
      cases hpower
      cases hline
      rfl

end Sys2Proof.Machine
end

section

-- One theorem at a time, as in the tests: many proofs elaborated at once each hold a thread's stack.
set_option Elab.async false

/-! Sent replies, the lines and the end of RETAIN (O33, O35, O36, O51). -/

namespace Sys2Proof.Machine

open State

namespace State

variable (s : State)

/-! ## The transmitter and the arbiter -/

/-- An idle transmitter begins the reply-queue head in RUN and FLUSH (R166). -/
theorem startTransmitter_of_idle (h : s.link.transmitting = false) : s.startTransmitter =
    s.setLink { s.link with
      transmitting := !s.link.replies.isEmpty && (s.power.device == .run || s.power.device == .flush) } := by
  unfold startTransmitter
  rw [h, Bool.not_false, Bool.true_and]
  split
  · next hstarts => rw [hstarts]
  · next hstays =>
    rw [eq_false_of_ne_true hstays, ← h]
    rfl

theorem startTransmitter_of_sending (h : s.link.transmitting = true) : s.startTransmitter = s :=
  if_neg (by simp [h])

/-- The transmitter's start leaves the queues and the credits (R166). -/
theorem startTransmitter_queues : s.startTransmitter.link.credits = s.link.credits ∧
    s.startTransmitter.link.requests = s.link.requests ∧ s.startTransmitter.link.jobs = s.link.jobs ∧
    s.startTransmitter.link.replies = s.link.replies := by
  unfold startTransmitter
  split <;> exact ⟨rfl, rfl, rfl, rfl⟩

/-- With an operation in progress the arbiter chooses nothing in any device state (R77). -/
theorem arbiter_of_op {op : Operation} (h : s.store.op = some op) : s.arbiter = s := by
  cases hdevice : s.power.device with
  | run => exact s.arbiter_of_busy hdevice (by simp [h])
  | flush => simp [arbiter, hdevice, arrayFree, h]
  | start | retain => simp [arbiter, hdevice]

theorem flushEntry_of_op {op : Operation} (h : s.store.op = some op) : s.flushEntry = s.enterFlush := by
  have hop := s.enterFlush_op
  rw [h] at hop
  exact s.enterFlush.arbiter_of_op hop

/-- Where no reply wait ends, nothing happens (R127). -/
theorem endReplyWait_of_not (h : s.power.replyWait = false ∨ s.link.replies ≠ []) : s.endReplyWait = s := by
  refine if_neg ?_
  obtain h | h := h <;> simp [h]

/-! ## FLUSH entry at the link -/

theorem cancelAll_link : s.cancelAll.link.credits = s.link.credits ∧
    s.cancelAll.link.receiver = s.link.receiver ∧ s.cancelAll.link.gap = s.link.gap ∧
    s.cancelAll.link.replies = s.link.replies ++
      (s.link.jobs.map (fun j => Reply.answering (jobKind j.state).code j.tag (Answer.refuse .cancelled)) ++
        s.link.requests.map (fun r => Reply.answering r.kind r.tag (Answer.refuse .cancelled))) := by
  unfold cancelAll
  rw [startTransmitter_link]
  exact ⟨rfl, rfl, rfl, rfl⟩

/-- FLUSH entry before its cancellations leaves the link (R167). -/
theorem flushCut_link : s.flushListed.cutHolder.abortErase.link = s.link := by
  rw [(abortErase_changes _).link_eq, (cutHolder_changes _).link_eq]
  unfold flushListed flushDrained
  rw [setSched_link, (drainCountsAll_changes _).link_eq]
  rfl

theorem enterFlush_link : s.enterFlush.link.credits = s.link.credits ∧
    s.enterFlush.link.receiver = s.link.receiver ∧ s.enterFlush.link.gap = s.link.gap ∧
    s.enterFlush.link.replies = s.link.replies ++
      (s.link.jobs.map (fun j => Reply.answering (jobKind j.state).code j.tag (Answer.refuse .cancelled)) ++
        s.link.requests.map (fun r => Reply.answering r.kind r.tag (Answer.refuse .cancelled))) := by
  have h := s.flushListed.cutHolder.abortErase.cancelAll_link
  rw [flushCut_link] at h
  rw [enterFlush_eq, (closeSession_changes ..).link_eq]
  exact h

/-! ## A reply sent -/

/-- The reply's bytes are out: its credit is returned and the transmitter is idle (R160, R166). -/
def replyDone (s : State) (rest : List Reply) : State :=
  s.setLink { s.link with replies := rest, transmitting := false, credits := s.link.credits - 1 }

variable {s} {r : Reply} {rest : List Reply}

theorem isRestart_iff : r.isRestart = true ↔ r.kind = 0xB0 ∧ r.status = 0 := by
  simp only [Reply.isRestart, Bool.and_eq_true, beq_iff_eq]
  exact Iff.rfl

theorem sendReply_eq (hsending : s.link.transmitting = true) (hr : s.link.replies = r :: rest) : s.sendReply =
    (let u := if r.isRestart then (s.replyDone rest).setPower { s.power with restartOwed := true } else s.replyDone rest
     let v := if r.isRestart && u.isRun then u.flushEntry else u
     v.startTransmitter.endReplyWait) := by
  unfold sendReply
  split
  · next r' rest' _ hr' =>
    obtain ⟨rfl, rfl⟩ := List.cons.inj (hr.symm.trans hr')
    rfl
  · next hno => exact absurd hr (hno r rest hsending)

theorem sendReply_plain (hsending : s.link.transmitting = true) (hr : s.link.replies = r :: rest)
    (hplain : r.isRestart = false) : s.sendReply = (s.replyDone rest).startTransmitter.endReplyWait := by
  rw [sendReply_eq hsending hr, hplain]
  rfl

theorem sendReply_restart (hsending : s.link.transmitting = true) (hr : s.link.replies = r :: rest)
    (hrestart : r.isRestart = true) (hrun : s.power.device ≠ .run) :
    s.sendReply = ((s.replyDone rest).setPower { s.power with restartOwed := true }).startTransmitter.endReplyWait := by
  rw [sendReply_eq hsending hr, hrestart]
  dsimp only
  rw [if_pos rfl, if_neg]
  simpa [isRun] using hrun

theorem sendReply_restart_run (hsending : s.link.transmitting = true) (hr : s.link.replies = r :: rest)
    (hrestart : r.isRestart = true) (hrun : s.power.device = .run) :
    s.sendReply = ((s.replyDone rest).setPower { s.power with restartOwed := true }).flushEntry.startTransmitter.endReplyWait := by
  rw [sendReply_eq hsending hr, hrestart]
  dsimp only
  rw [if_pos rfl, if_pos]
  simpa [isRun] using hrun

/-- The end of the reply wait enters START (R127). -/
theorem endReplyWait_of_last (hwait : s.power.replyWait = true) (hreplies : s.link.replies = [])
    (hidle : s.link.transmitting = false) : s.endReplyWait = s.owedRestart :=
  if_pos (by simp [hwait, hreplies, hidle])

end State

/-- An owed restart enters START from any state that keeps the timebase, the array and the straps. -/
theorem owedRestart_ends {s u : State} (htime : u.timebase = s.timebase) (harray : u.array = s.array) (hpins : u.pins = s.pins) :
    StartEntered u.owedRestart .restart ∧ FirstRead u.owedRestart ∧ u.owedRestart.timebase = s.timebase ∧
      u.owedRestart.array = s.array ∧ u.owedRestart.link.lineRate = strapRate s.pins := by
  rw [← htime, ← harray, ← hpins]
  exact owedRestart_entered u

/-- With the last reply of the reply wait sent START is entered (R127). -/
theorem lastReply_ends {s u : State} (hwait : u.power.replyWait = true) (hidle : u.link.transmitting = false)
    (hreplies : u.link.replies = []) (htime : u.timebase = s.timebase) (harray : u.array = s.array) (hpins : u.pins = s.pins) :
    StartEntered u.startTransmitter.endReplyWait .restart ∧ FirstRead u.startTransmitter.endReplyWait ∧
      u.startTransmitter.endReplyWait.timebase = s.timebase ∧ u.startTransmitter.endReplyWait.array = s.array ∧
      u.startTransmitter.endReplyWait.link.lineRate = strapRate s.pins := by
  have hstart : u.startTransmitter = u := if_neg (by simp [hreplies])
  rw [hstart, endReplyWait_of_last hwait hreplies hidle]
  exact owedRestart_ends htime harray hpins

/-- Settles O51: a sent reply returns its credit, a sent RESTART enters FLUSH, and the last one of the reply wait enters START. -/
theorem replySentReturnsTheCredit : Obligations.ReplySentReturnsTheCredit := by
  unfold Obligations.ReplySentReturnsTheCredit
  intro s r rest hsending hr
  dsimp only
  rw [show exec .replySent s = .next s.sendReply from rfl]
  refine ⟨fun hplain hwait => ?_, fun hrestart hrun hwait => ?_, fun hrestart hrun op hop => ?_, fun hwait hflush hlast => ?_⟩
  · rw [sendReply_plain hsending hr (eq_false_of_ne_true (mt isRestart_iff.1 hplain)), startTransmitter_of_idle _ rfl,
      endReplyWait_of_not _ hwait]
    rfl
  · rw [sendReply_restart hsending hr (isRestart_iff.2 hrestart) hrun, startTransmitter_of_idle _ rfl,
      endReplyWait_of_not _ hwait]
    rfl
  · rw [sendReply_restart_run hsending hr (isRestart_iff.2 hrestart) hrun]
    have hu : ((s.replyDone rest).setPower { s.power with restartOwed := true }).link = (s.replyDone rest).link := rfl
    have hpower : ((s.replyDone rest).setPower { s.power with restartOwed := true }).power =
        { s.power with restartOwed := true } := rfl
    have harray : ((s.replyDone rest).setPower { s.power with restartOwed := true }).array = s.array := rfl
    have hop' : ((s.replyDone rest).setPower { s.power with restartOwed := true }).store.op = some op := hop
    generalize (s.replyDone rest).setPower { s.power with restartOwed := true } = u at *
    rw [flushEntry_of_op u hop']
    have hstart := startTransmitter_changes u.enterFlush
    have hdevice := hstart.power_eq
    rw [enterFlush_power, hpower] at hdevice
    rw [endReplyWait_of_not (u.enterFlush.startTransmitter) (.inl (by rw [hdevice]))]
    obtain ⟨hcredits, -, -, hreplies⟩ := u.enterFlush_link
    obtain ⟨kcredits, krequests, kjobs, kreplies⟩ := u.enterFlush.startTransmitter_queues
    refine ⟨_, rfl, by rw [hdevice], by rw [hdevice], ?_, ?_, ?_, ?_, ?_, ?_, ?_⟩
    · rw [hstart.capture_eq, enterFlush_frozen]
    · rw [kcredits, hcredits, hu]
      rfl
    · rw [krequests, enterFlush_requests]
    · rw [kjobs, enterFlush_jobs]
    · rw [hstart.service_eq, enterFlush_session]
    · rw [kreplies, hreplies, hu]
      simp [replyDone, Nat.add_assoc]
    · rw [hstart.array_eq, (enterFlush_changes u).array_eq, harray]
  · subst hlast
    cases hrestart : r.isRestart with
    | false =>
      rw [sendReply_plain hsending hr hrestart]
      exact ⟨_, rfl, lastReply_ends hwait rfl rfl rfl rfl rfl⟩
    | true =>
      rw [sendReply_restart hsending hr hrestart (by rw [hflush]; decide)]
      exact ⟨_, rfl, lastReply_ends hwait rfl rfl rfl rfl rfl⟩

/-! ## RETAIN -/

/-- The return to RUN follows the lines with the notice already raised (R129). -/
theorem resumeExpiry_of_due {s : State} (howed : s.power.restartOwed = false) :
    s.resumeExpiry = (s.raise .power (.power .resumed)).returnToRun := by
  simp [resumeExpiry, howed]

theorem followLines_of_host {s : State} (h : s.config.live.globals.tariffSource = .host ∨ s.accum.tsel.filtered = s.accum.tariff) :
    s.followLines = s := by
  unfold followLines
  split
  · next hlines => exact s.tariffSwitch_active (h.resolve_left (by rw [hlines]; decide))
  · rfl

/-- A transmitter that sends goes on, an idle one begins the next reply (R126, R166). -/
theorem startTransmitter_of_run {s : State} (hrun : s.power.device = .run) :
    s.startTransmitter = s.setLink { s.link with transmitting := s.link.transmitting || !s.link.replies.isEmpty } := by
  cases h : s.link.transmitting with
  | true =>
    rw [startTransmitter_of_sending s h, Bool.true_or, ← h]
    rfl
  | false =>
    rw [startTransmitter_of_idle s h, hrun]
    simp

theorem followLines_tariff {s : State} (h : s.config.live.globals.tariffSource = .lines) :
    s.followLines.accum.tariff = s.accum.tsel.filtered := by
  rw [followLines, if_pos h]
  exact s.tariffSwitch_tariff _

theorem State.tariffSwitch_captureState (s : State) (x : Tariff) : (s.tariffSwitch x).capture.state = s.capture.state := by
  unfold tariffSwitch
  dsimp only
  have hdrained := s.drainAll_drained.state
  split
  · rfl
  · split
    · rw [(deliverAll_changes ..).capture_eq, setAccum_capture, hdrained]
    · rw [setAccum_capture, hdrained]

theorem followLines_captureState (s : State) : s.followLines.capture.state = s.capture.state := by
  unfold followLines
  split
  · exact s.tariffSwitch_captureState _
  · rfl

/-- The resume timer is due at its tenth tick (R129). -/
theorem exec_resumeTimerExpiry {s : State} {n : Nat} (halive : s.alive = true) (hretain : s.power.device = .retain)
    (hresume : s.power.resume = some n) (hn : 10 ≤ n + 1) : exec .resumeTimerExpiry s = .next s.resumeExpiry := by
  refine congrArg Host.Outcome.next (if_pos ?_)
  have hdue : Config.resumeTicks ≤ n + 1 := hn
  simp [halive, resumeDue, hretain, hresume, hdue]

/-- Settles O33: the tenth tick of PFAIL inactivity owes the restart its START, or returns to RUN. -/
theorem resumeExpiryEndsRetain : Obligations.ResumeExpiryEndsRetain := by
  unfold Obligations.ResumeExpiryEndsRetain
  intro s n halive hretain hresume hn
  rw [exec_resumeTimerExpiry halive hretain hresume hn]
  refine ⟨fun howed => ⟨_, rfl, ?_⟩, fun howed hsource => ?_, fun howed hlines => ⟨_, rfl, ?_⟩⟩
  · rw [resumeExpiry, if_pos howed]
    exact owedRestart_entered s
  · rw [resumeExpiry_of_due howed, returnToRun, followLines_of_host, startTransmitter_of_run rfl, arbiter_of_run _ rfl]
    · rfl
    · exact hsource
  · rw [resumeExpiry_of_due howed]
    unfold returnToRun
    have hu : ((s.raise .power (.power .resumed)).setPower
        { (s.raise .power (.power .resumed)).power with device := .run, resume := none }).captureLive.config.live.globals.tariffSource =
          .lines := hlines
    have htsel : ((s.raise .power (.power .resumed)).setPower
        { (s.raise .power (.power .resumed)).power with device := .run, resume := none }).captureLive.accum.tsel.filtered =
          s.accum.tsel.filtered := rfl
    have hpower : ((s.raise .power (.power .resumed)).setPower
        { (s.raise .power (.power .resumed)).power with device := .run, resume := none }).captureLive.power.device = .run := rfl
    have hlive : ((s.raise .power (.power .resumed)).setPower
        { (s.raise .power (.power .resumed)).power with device := .run, resume := none }).captureLive.capture.state = .live := rfl
    generalize ((s.raise .power (.power .resumed)).setPower
        { (s.raise .power (.power .resumed)).power with device := .run, resume := none }).captureLive = u at *
    have hstart := startTransmitter_changes u.followLines
    have hchoice := arbiterRun_drained u.followLines.startTransmitter
    refine ⟨?_, ?_, ?_⟩
    · rw [(arbiterRun_steady _).device, hstart.power_eq, (followLines_changes u).power_eq, hpower]
    · rw [hchoice.tariff, hstart.accum_eq, followLines_tariff hu, htsel]
    · rw [hchoice.state, hstart.capture_eq, followLines_captureState, hlive]

/-! ## The lines -/

/-- Settles O35: every other line's change is that level's, and PFAIL outside RUN moves the resume timer only. -/
theorem otherLineAndPfailChanges : Obligations.OtherLineAndPfailChanges := by
  unfold Obligations.OtherLineAndPfailChanges
  have hrises : ∀ {s : State}, s.supply.powered = true → s.power.pfailFiltered = false →
      exec .pfailActive s = .next s.pfailRises := fun hpower hpfail =>
    congrArg Host.Outcome.next (if_pos (by simp [hpower, hpfail]))
  have hfalls : ∀ {s : State}, s.supply.powered = true → s.power.pfailFiltered = true →
      exec .pfailInactive s = .next s.pfailFalls := fun hpower hpfail =>
    congrArg Host.Outcome.next (if_pos (by simp [hpower, hpfail]))
  refine ⟨fun s l hpower => ?_, fun s hpower => ⟨fun hpfail hdevice => ?_, fun hpfail hdevice => ?_, fun hpfail hdevice => ?_,
    fun hpfail hdevice => ?_⟩⟩
  · have hsync : ∀ p, exec (.synchronisedLevelChange p l) s = .next (s.syncPin p l) := fun p =>
      congrArg Host.Outcome.next (if_pos hpower)
    exact ⟨hsync _, hsync _, hsync _, hsync _, hsync _, hsync _⟩
  · rw [hrises hpower hpfail]
    obtain hdevice | hdevice := hdevice <;> simp [pfailRises, setPfail, hdevice, setPower]
  · rw [hrises hpower hpfail]
    simp [pfailRises, setPfail, setResume, hdevice, setPower]
  · rw [hfalls hpower hpfail]
    obtain hdevice | hdevice := hdevice <;> simp [pfailFalls, setPfail, hdevice, setPower]
  · rw [hfalls hpower hpfail]
    simp [pfailFalls, setPfail, setResume, hdevice, setPower]

/-- Settles O36: the tariff select filter's change switches the tariff in RUN under LINES, and otherwise nothing but itself. -/
theorem tselFilteredChangeSwitchesUnderLines : Obligations.TselFilteredChangeSwitchesUnderLines := by
  unfold Obligations.TselFilteredChangeSwitchesUnderLines
  intro s halive hnew hcandidate hrun
  dsimp only
  have hdue : s.tselDue = true := by
    have hticks : s.accum.tsel.run + 1 = Config.lineFilterTicks := hrun
    simp only [tselDue, halive, hcandidate, Bool.true_and, Bool.and_eq_true, beq_iff_eq, bne_iff_ne, hticks, and_true]
    exact hcandidate ▸ hnew
  rw [show exec .tselFilteredChange s = .next (if s.tselDue then s.tselChange.arbiter else s) from rfl, if_pos hdue]
  refine ⟨fun hdevice hlines => ?_, fun hother hbusy => ?_⟩
  · unfold tselChange
    dsimp only
    rw [if_pos (by exact hdevice), followLines, if_pos (by exact hlines)]
    rfl
  · obtain ⟨op, hop⟩ := Option.ne_none_iff_exists'.1 hbusy
    have hsame : s.tselChange = s.setAccum { s.accum with
        tsel := { s.accum.tsel with filtered := s.accum.tsel.candidate, run := 0 } } := by
      unfold tselChange
      dsimp only
      split
      · next hdevice =>
        have hhost : s.config.live.globals.tariffSource = .host := hother.resolve_left (not_not_intro hdevice)
        exact followLines_of_host (.inl hhost)
      · rfl
    rw [hsame]
    exact congrArg Host.Outcome.next (arbiter_of_op _ (op := op) (by exact hop))

end Sys2Proof.Machine
end

section

-- One theorem at a time, as in the tests: many proofs elaborated at once each hold a thread's stack.
set_option Elab.async false

/-! The notice unit's raise and the failure of jobs (O18, O26). -/

namespace Sys2Proof.Machine

open State

namespace State

variable (s : State) (k : NoticeKind) (d : NoticeDetail)

theorem raise_record : (s.raise k d).notices.records.get k = (s.notices.records.get k).raised k d := by
  rw [raise, setNotices_notices, NoticeTable.get_set_self]

theorem raise_other {j : NoticeKind} (h : j ≠ k) : (s.raise k d).notices.records.get j = s.notices.records.get j := by
  rw [raise, setNotices_notices, NoticeTable.get_set, if_neg h]

theorem attn_iff : s.attn = true ↔ s.notices.armed = true ∧
    ∃ j : NoticeKind, (s.notices.records.get j).pending = true ∧ (j = .power ∨ s.notices.mask.getLsbD j.number = false) := by
  rw [attn, Bool.and_eq_true, NoticeUnit.any_eligible_iff]

/-- A raise makes ATTN active exactly if the unit is armed and the kind is POWER or unmasked (R150). -/
theorem raise_attn : (s.raise k d).attn = (s.attn || (s.notices.armed && (k == .power || !s.notices.mask.getLsbD k.number))) := by
  rw [Bool.eq_iff_iff]
  simp only [Bool.or_eq_true, Bool.and_eq_true, attn_iff, ← and_or_left, beq_iff_eq, Bool.not_eq_true']
  refine and_congr_right fun _ => ⟨fun ⟨j, hpending, hshown⟩ => ?_, fun h => ?_⟩
  · by_cases hjk : j = k
    · exact .inr (hjk ▸ hshown)
    · exact .inl ⟨j, s.raise_other k d hjk ▸ hpending, hshown⟩
  · obtain ⟨j, hpending, hshown⟩ | hshown := h
    · refine ⟨j, ?_, hshown⟩
      by_cases hjk : j = k
      · rw [hjk, raise_record]; rfl
      · rwa [s.raise_other k d hjk]
    · exact ⟨k, by rw [raise_record]; rfl, hshown⟩

end State

/-- Settles O18: by the record a raise leaves, and its detail's merge kind by kind. -/
theorem raisesCountAndMerge : Obligations.RaisesCountAndMerge := by
  unfold Obligations.RaisesCountAndMerge
  intro s k d
  dsimp only
  rw [raise_record]
  refine ⟨rfl, rfl, ?_, ?_, ?_, ?_, ?_, fun j hj => s.raise_other k d hj, rfl, rfl, s.raise_changes k d, s.raise_attn k d⟩
  · rintro (rfl | rfl) <;> rfl
  · rintro rfl
    rfl
  · rintro (rfl | rfl) x y rfl <;> exact ⟨fun h => by simp [NoticeRecord.raised, NoticeDetail.merge, h],
      fun h => by simp [NoticeRecord.raised, NoticeDetail.merge, h]⟩
  · rintro rfl x y rfl
    exact ⟨fun h => by simp [NoticeRecord.raised, NoticeDetail.merge, h], fun h => by simp [NoticeRecord.raised, NoticeDetail.merge, h]⟩
  · rintro rfl x y p q rfl
    exact ⟨fun h => by simp [NoticeRecord.raised, NoticeDetail.merge, h], fun h => by simp [NoticeRecord.raised, NoticeDetail.merge, h]⟩

/-! ## Failure of a job -/

theorem jobFails_commit {s : State} {h : Hold} {j : CommitJob} {r : RingSector} (hjob : h.job = .commit j) (hfault : h.fault = some r) :
    s.jobFails h =
      (let u := ((s.setHolder none).storeFault (.ring r)).tellAll j.channel .storeFailed j.waiters
       if j.cause = .flush then u.setPower { u.power with notWritten := u.power.notWritten ||| channelBit j.channel } else u) := by
  simp only [jobFails, hjob, hfault, commitFails]

theorem jobFails_copy {s : State} {h : Hold} {j : CopyJob} (hjob : h.job = .copy j) :
    s.jobFails h = ((s.setHolder none).storeFault (.ring (h.fault.getD j.target))).setEngine { phase := .idle, retryWait := true } := by
  simp only [jobFails, hjob, copyFails]

/-- Settles O26: a failed commit tells its waiters, a failed copy gives up its target. -/
theorem failedJobsRaiseStoreFault : Obligations.FailedJobsRaiseStoreFault := by
  unfold Obligations.FailedJobsRaiseStoreFault
  refine fun s h => ⟨fun j r hjob hfault => ⟨fun hcause => ?_, fun hcause => ?_⟩, fun j hjob => ?_⟩
  · rw [jobFails_commit hjob hfault]
    exact if_neg hcause
  · rw [jobFails_commit hjob hfault]
    exact if_pos hcause
  · rw [jobFails_copy hjob]
    cases h.fault <;> rfl

end Sys2Proof.Machine
end

section

-- One theorem at a time, as in the tests: many proofs elaborated at once each hold a thread's stack.
set_option Elab.async false

/-! The commit scheduler: causes, waiters and their outcomes (O19, O20). -/

namespace Sys2Proof.Machine

open State

/-! ## Causes -/

/-- A cause merges into its channel's entry, in its place (R38). -/
theorem mergeCause_present {xs ys : List QueueEntry} {e : QueueEntry} {c : Channel} (he : e.channel = c)
    (hxs : ∀ x ∈ xs, x.channel ≠ c) (k : Cause) (w : Option JobSlot) : mergeCause (xs ++ e :: ys) c k w =
      xs ++ { channel := c, cause := if k.rank < e.cause.rank then k else e.cause, waiters := e.waiters ++ w.toList } :: ys := by
  induction xs with
  | nil => rw [List.nil_append, mergeCause, if_pos he, ← he]; rfl
  | cons x xs ih =>
    obtain ⟨hx, hxs⟩ := List.forall_mem_cons.1 hxs
    rw [List.cons_append, mergeCause, if_neg hx, ih hxs]
    rfl

/-- A cause of a channel without an entry makes one at the tail (R38). -/
theorem mergeCause_absent {q : List QueueEntry} {c : Channel} (hq : ∀ e ∈ q, e.channel ≠ c) (k : Cause) (w : Option JobSlot) :
    mergeCause q c k w = q ++ [{ channel := c, cause := k, waiters := w.toList }] := by
  induction q with
  | nil => rfl
  | cons e q ih =>
    obtain ⟨he, hq⟩ := List.forall_mem_cons.1 hq
    rw [mergeCause, if_neg he, ih hq]
    rfl

namespace State

variable (s : State)

theorem deliverCause_of_not_exhausted (h : s.store.exhausted = false) (c : Channel) (k : Cause) (w : Option JobSlot) :
    s.deliverCause c k w = s.setQueue (mergeCause s.sched.queue c k w) := by
  unfold deliverCause
  exact if_neg (by rw [setQueue, setSched_store, h]; decide)

/-- The commit queue emptied, with no head that waits (R51). -/
def dropQueue (s : State) : State := s.setSched { s.sched with queue := [], headWaiting := false }

theorem deliverCause_of_exhausted (h : s.store.exhausted = true) (c : Channel) (k : Cause) (w : Option JobSlot) :
    s.deliverCause c k w =
      (mergeCause s.sched.queue c k w).foldl (fun x e => x.tellAll e.channel .exhausted e.waiters) s.dropQueue := by
  unfold deliverCause
  exact if_pos h

theorem tellEach_changes (q : List QueueEntry) (o : Resolution) :
    Changes [.link] s (q.foldl (fun x e => x.tellAll e.channel o e.waiters) s) :=
  .foldl (fun x (e : QueueEntry) => x.tellAll_changes e.channel o e.waiters) q s

end State

/-- Settles O19: a cause meets its channel's entry or the tail, and an EXHAUSTED store's entries are resolved at once. -/
theorem causesMergeJoinTheTailOrAreResolved : Obligations.CausesMergeJoinTheTailOrAreResolved := by
  unfold Obligations.CausesMergeJoinTheTailOrAreResolved
  refine ⟨⟨rfl, fun s c k w hstore => ⟨fun xs e ys hq he hxs => ?_, fun hq => ?_⟩⟩, fun s c k w hstore => ?_⟩
  · rw [s.deliverCause_of_not_exhausted hstore, hq, mergeCause_present he hxs]
    rfl
  · rw [s.deliverCause_of_not_exhausted hstore, mergeCause_absent hq]
    rfl
  · dsimp only
    rw [s.deliverCause_of_exhausted hstore]
    have htold := s.dropQueue.tellEach_changes (mergeCause s.sched.queue c k w) .exhausted
    refine ⟨htold.sched_eq, ((setSched_changes ..).mono (by decide)).trans (htold.mono (by decide)), ?_⟩
    rintro hempty v rfl
    rw [hempty]
    rfl

/-! ## Waiters -/

namespace State

variable {s : State} {w : JobSlot} {j : HostJob}

theorem job?_eq_some (h : s.job? w = some j) : j ∈ s.link.jobs ∧ j.slot = w :=
  ⟨List.mem_of_find?_eq_some h, by simpa using List.find?_some h⟩

/-- The KIND byte of a host job's reply: its request's with bit 7 set (R164, R165). -/
def jobReplyKind (x : JobState) : Byte :=
  match x with
  | .apply _ _ => 0xA5
  | .readSlot _ _ => 0x86
  | .commitWait _ _ => 0x91
  | .loadWait _ => 0xA7

theorem answering_job (x : JobState) (tag : Byte) (a : Answer) : Reply.answering (jobKind x).code tag a =
    { kind := jobReplyKind x, tag := tag, status := a.status.code, payload := a.payload } := by
  cases x <;> simp only [jobKind] <;> rfl

/-- The entries of the table are distinct: to free one is to keep the others (R163). -/
theorem eraseP_slot_eq_filter {l : List HostJob} (h : (l.map HostJob.slot).Nodup) (w : JobSlot) :
    l.eraseP (fun x => x.slot == w) = l.filter (fun x => x.slot ≠ w) := by
  induction l with
  | nil => rfl
  | cons x l ih =>
    obtain ⟨hx, hl⟩ := List.nodup_cons.1 h
    by_cases hw : x.slot = w
    · have hkeep : l.filter (fun y => y.slot ≠ w) = l :=
        List.filter_eq_self.2 fun y hy => by
          simp only [ne_eq, decide_not, Bool.not_eq_true', decide_eq_false_iff_not]
          exact fun hy' => hx (hw ▸ hy' ▸ List.mem_map_of_mem hy)
      rw [List.eraseP_cons_of_pos (by simp [hw]), List.filter_cons_of_neg (by simp [hw]), hkeep]
    · rw [List.eraseP_cons_of_neg (by simp [hw]), List.filter_cons_of_pos (by simp [hw]), ih hl]

/-- A host job that ends leaves its entry free and its reply at the tail of the reply queue (R164). -/
theorem endJob_of_slots (hslots : (s.link.jobs.map HostJob.slot).Nodup) (h : s.job? w = some j) (a : Answer) : s.endJob w a =
    (s.setLink { s.link with
      jobs := s.link.jobs.filter (fun x => x.slot ≠ w)
      replies := s.link.replies ++
        [{ kind := jobReplyKind j.state, tag := j.tag, status := a.status.code, payload := a.payload }] }).startTransmitter := by
  unfold endJob
  split
  · next hnone => exact absurd hnone (by simp [h])
  · next j' hsome =>
    obtain rfl := Option.some.inj (h.symm.trans hsome)
    rw [eraseP_slot_eq_filter hslots, answer, answering_job]
    rfl

theorem endJob_eq (hs : LinkLaw s) (h : s.job? w = some j) (a : Answer) : s.endJob w a =
    (s.setLink { s.link with
      jobs := s.link.jobs.filter (fun x => x.slot ≠ w)
      replies := s.link.replies ++
        [{ kind := jobReplyKind j.state, tag := j.tag, status := a.status.code, payload := a.payload }] }).startTransmitter :=
  endJob_of_slots hs.slots h a

theorem tell_commitWait {m : ChannelMask} {f : Option CommitFailure} (h : s.job? w = some j)
    (hstate : j.state = .commitWait m f) (c : Channel) (o : Resolution) : s.tell c o w =
      if maskWithout m c = 0 then s.endJob w (commitAnswer (recordFailure f o.failure))
      else s.setJobState w (.commitWait (maskWithout m c) (recordFailure f o.failure)) := by
  simp only [tell, h, Option.map_some, hstate]

theorem tell_loadWait {x : Channel} (h : s.job? w = some j) (hstate : j.state = .loadWait x) (c : Channel) (o : Resolution) :
    s.tell c o w = s.endJob w (s.loadAnswer c o) := by
  simp only [tell, h, Option.map_some, hstate]

end State

/-- Settles O20: a COMMIT_WAIT job keeps its first failure and ends with its last channel, a LOAD_WAIT job at its outcome. -/
theorem waitersAreToldTheOutcome : Obligations.WaitersAreToldTheOutcome := by
  unfold Obligations.WaitersAreToldTheOutcome
  intro s w j c o hs h
  dsimp only
  refine ⟨fun m f hstate => ⟨fun hleft => ?_, fun hlast => ?_⟩, fun x hstate => ⟨?_, ?_, fun d ho hd => ?_⟩⟩
  · rw [tell_commitWait h hstate, if_neg hleft]
    cases f <;> cases o <;> rfl
  · rw [tell_commitWait h hstate, if_pos hlast, endJob_eq hs h, hstate]
    cases f with
    | some f => cases f <;> cases o <;> rfl
    | none => cases o <;> rfl
  · rintro rfl
    rw [tell_loadWait h hstate, endJob_eq hs h, hstate]
    rfl
  · rintro rfl
    rw [tell_loadWait h hstate, endJob_eq hs h, hstate]
    rfl
  · subst ho
    have hanswer : s.loadAnswer c .succeeded = Answer.ok (designationBytes (some d)) := by
      rw [← hd]
      rfl
    rw [tell_loadWait h hstate, endJob_eq hs h, hstate, hanswer]
    rfl

end Sys2Proof.Machine
end

section

-- One theorem at a time, as in the tests: many proofs elaborated at once each hold a thread's stack.
set_option Elab.async false

/-! What a drain round and a tariff switch queue (O21), and FLUSH entry (O37). -/

namespace Sys2Proof.Machine

open State

/-! ## The cause an entry holds -/

/-- The cause of a channel's entry in the commit queue, if it has one (R36, R37). -/
def causeOf (q : List QueueEntry) (c : Channel) : Option Cause := (q.find? (fun e => e.channel == c)).map QueueEntry.cause

/-- The cause an entry holds once a new one has reached it (R38). -/
def mergedCause (present : Option Cause) (k : Cause) : Cause :=
  match present with
  | none => k
  | some x => x.higher k

theorem causeOf_cons (e : QueueEntry) (q : List QueueEntry) (c : Channel) :
    causeOf (e :: q) c = if e.channel = c then some e.cause else causeOf q c := by
  unfold causeOf
  by_cases h : e.channel = c <;> simp [h]

theorem causeOf_append (q r : List QueueEntry) (c : Channel) : causeOf (q ++ r) c = (causeOf q c).or (causeOf r c) := by
  unfold causeOf
  rw [List.find?_append]
  cases q.find? (fun e => e.channel == c) <;> simp

theorem exists_of_causeOf {q : List QueueEntry} {c : Channel} {k : Cause} (h : causeOf q c = some k) :
    ∃ e ∈ q, e.channel = c ∧ e.cause = k := by
  obtain ⟨e, he, hk⟩ := Option.map_eq_some_iff.1 h
  exact ⟨e, List.mem_of_find?_eq_some he, by simpa using List.find?_some he, hk⟩

theorem causeOf_of_mem {q : List QueueEntry} (hq : (q.map QueueEntry.channel).Nodup) {e : QueueEntry} (he : e ∈ q) :
    causeOf q e.channel = some e.cause := by
  induction q with
  | nil => cases he
  | cons d q ih =>
    obtain ⟨hd, hq⟩ := List.nodup_cons.1 hq
    rw [causeOf_cons]
    obtain rfl | he := List.mem_cons.1 he
    · rw [if_pos rfl]
    · rw [if_neg fun h' : d.channel = e.channel => hd (h'.symm ▸ List.mem_map_of_mem he), ih hq he]

theorem causeOf_mergeCause (q : List QueueEntry) (c d : Channel) (k : Cause) (w : Option JobSlot) :
    causeOf (mergeCause q c k w) d = if d = c then some (mergedCause (causeOf q c) k) else causeOf q d := by
  induction q with
  | nil =>
    rw [mergeCause, causeOf_cons]
    by_cases h : d = c
    · rw [if_pos h, if_pos h.symm]; rfl
    · rw [if_neg h, if_neg (Ne.symm h)]
  | cons e q ih =>
    rw [mergeCause]
    split
    · next he =>
      rw [causeOf_cons, causeOf_cons, causeOf_cons, he, if_pos rfl]
      by_cases h : d = c
      · rw [if_pos h, if_pos h.symm]; rfl
      · rw [if_neg h, if_neg (Ne.symm h), if_neg (Ne.symm h)]
    · next he =>
      rw [causeOf_cons, causeOf_cons, causeOf_cons, ih, if_neg he]
      by_cases h : d = c
      · rw [if_pos h, if_neg (h ▸ he), if_pos h]
      · rw [if_neg h, if_neg h]

/-- A cause of one channel leaves every entry of the others (R38). -/
theorem mem_of_mem_mergeCause {q : List QueueEntry} {c : Channel} {k : Cause} {w : Option JobSlot} {e : QueueEntry}
    (he : e ∈ mergeCause q c k w) (hc : e.channel ≠ c) : e ∈ q := by
  induction q with
  | nil =>
    obtain rfl := List.mem_singleton.1 he
    exact absurd rfl hc
  | cons d q ih =>
    rw [mergeCause] at he
    split at he
    · next hd =>
      obtain rfl | he := List.mem_cons.1 he
      · exact absurd hd hc
      · exact List.mem_cons_of_mem _ he
    · obtain rfl | he := List.mem_cons.1 he
      · exact List.mem_cons_self
      · exact List.mem_cons_of_mem _ (ih he)

/-- One cause for several channels at the queue (R38). -/
def mergeAll (q : List QueueEntry) (cs : List Channel) (k : Cause) (w : Option JobSlot) : List QueueEntry :=
  cs.foldl (fun q c => mergeCause q c k w) q

theorem mem_of_mem_mergeAll {cs : List Channel} {k : Cause} {w : Option JobSlot} {e : QueueEntry} (hc : e.channel ∉ cs) :
    ∀ {q : List QueueEntry}, e ∈ mergeAll q cs k w → e ∈ q := by
  induction cs with
  | nil => exact fun he => he
  | cons c cs ih =>
    intro q he
    exact mem_of_mem_mergeCause (ih (fun h => hc (List.mem_cons_of_mem _ h)) he) fun h => hc (h ▸ List.mem_cons_self)

theorem mergedCause_mergedCause (o : Option Cause) (k : Cause) : mergedCause (some (mergedCause o k)) k = mergedCause o k := by
  cases o with
  | none => simp [mergedCause, Cause.higher]
  | some x =>
    simp only [mergedCause, Cause.higher]
    split <;> simp_all

theorem causeOf_mergeAll (cs : List Channel) (k : Cause) (w : Option JobSlot) (d : Channel) : ∀ q : List QueueEntry,
    causeOf (mergeAll q cs k w) d = if d ∈ cs then some (mergedCause (causeOf q d) k) else causeOf q d := by
  induction cs with
  | nil => exact fun q => (if_neg List.not_mem_nil).symm
  | cons c cs ih =>
    intro q
    have h := ih (mergeCause q c k w)
    rw [causeOf_mergeCause] at h
    refine h.trans ?_
    by_cases hd : d = c
    · rw [if_pos hd, ← hd, mergedCause_mergedCause, ite_self, if_pos List.mem_cons_self]
    · simp only [List.mem_cons, hd, false_or, if_false]

/-! ## What the threshold step queues -/

/-- The queue has grown by entries of the threshold step, of channels that had none (R23). -/
def ThresholdGrown (q r : List QueueEntry) : Prop :=
  ∃ new, r = q ++ new ∧ ∀ e ∈ new, e.cause = .threshold ∧ ∀ d ∈ q, d.channel ≠ e.channel

theorem ThresholdGrown.refl (q : List QueueEntry) : ThresholdGrown q q := ⟨[], (List.append_nil q).symm, by simp⟩

theorem ThresholdGrown.trans {q r t : List QueueEntry} (h : ThresholdGrown q r) (h' : ThresholdGrown r t) : ThresholdGrown q t := by
  obtain ⟨new, rfl, hnew⟩ := h
  obtain ⟨new', rfl, hnew'⟩ := h'
  refine ⟨new ++ new', List.append_assoc .., fun e he => ?_⟩
  obtain he | he := List.mem_append.1 he
  · exact hnew e he
  · exact ⟨(hnew' e he).1, fun d hd => (hnew' e he).2 d (List.mem_append_left _ hd)⟩

namespace State

variable (s : State)

theorem queued_eq_false_iff {c : Channel} : s.queued c = false ↔ ∀ e ∈ s.sched.queue, e.channel ≠ c := by
  simp [queued]

theorem thresholdStep_queue (h : s.store.exhausted = false) (c : Channel) :
    ThresholdGrown s.sched.queue (s.thresholdStep c).sched.queue := by
  unfold thresholdStep
  split
  · next hmet =>
    have hfree : ∀ e ∈ s.sched.queue, e.channel ≠ c := by
      simp only [thresholdMet, Bool.and_eq_true, Bool.not_eq_true'] at hmet
      exact s.queued_eq_false_iff.1 hmet.1.2
    rw [s.deliverCause_of_not_exhausted h, mergeCause_absent hfree]
    exact ⟨_, rfl, by simpa using hfree⟩
  · exact .refl _

theorem drain_queue (h : s.store.exhausted = false) (c : Channel) :
    ThresholdGrown s.sched.queue (s.drain c).sched.queue := by
  have hcounted := drainCounts_changes s c
  rw [← hcounted.sched_eq]
  exact thresholdStep_queue _ (by rw [hcounted.store_eq, h]) c

/-- A drain round queues a channel without an entry at most, with THRESHOLD (R23, R24). -/
theorem drainAll_queue (h : s.store.exhausted = false) : ThresholdGrown s.sched.queue s.drainAll.sched.queue := by
  unfold drainAll
  refine (List.foldlRecOn (motive := fun x => x.store.exhausted = false ∧ ThresholdGrown s.sched.queue x.sched.queue)
    Channel.all drain (b := s) ⟨h, .refl _⟩ fun x hx c _ => ⟨?_, hx.2.trans (x.drain_queue hx.1 c)⟩).2
  rw [(drain_changes x c).store_eq, hx.1]

theorem deliverCause_queue_of_exhausted (h : s.store.exhausted = true) (c : Channel) (k : Cause) (w : Option JobSlot) :
    (s.deliverCause c k w).sched.queue = [] := by
  rw [s.deliverCause_of_exhausted h, (tellEach_changes ..).sched_eq]
  rfl

/-- While the store is EXHAUSTED a drain leaves the queue or empties it (R51). -/
theorem drainAll_queue_of_exhausted (h : s.store.exhausted = true) :
    s.drainAll.sched.queue = s.sched.queue ∨ s.drainAll.sched.queue = [] := by
  unfold drainAll
  refine (List.foldlRecOn
    (motive := fun x => x.store.exhausted = true ∧ (x.sched.queue = s.sched.queue ∨ x.sched.queue = []))
    Channel.all drain (b := s) ⟨h, .inl rfl⟩ fun x hx c _ => ⟨?_, ?_⟩).2
  · rw [(drain_changes x c).store_eq, hx.1]
  · have hcounted := drainCounts_changes x c
    unfold drain thresholdStep
    split
    · exact .inr (deliverCause_queue_of_exhausted _ (by rw [hcounted.store_eq, hx.1]) ..)
    · rw [hcounted.sched_eq]
      exact hx.2

theorem deliverAll_queue (cs : List Channel) (k : Cause) (w : Option JobSlot) : ∀ s : State, s.store.exhausted = false →
    (s.deliverAll cs k w).sched.queue = mergeAll s.sched.queue cs k w := by
  induction cs with
  | nil => exact fun s _ => rfl
  | cons c cs ih =>
    intro s h
    have hstore : (s.deliverCause c k w).store.exhausted = false := by rw [(deliverCause_changes s c k w).store_eq, h]
    refine (ih _ hstore).trans ?_
    rw [s.deliverCause_of_not_exhausted h]
    rfl

/-! ## The tariff switch -/

/-- A tariff switch before it queues the dirty channels (R28). -/
def switched (x : Tariff) : State := s.drainAll.setAccum { s.drainAll.accum with tariff := x }

theorem switched_changes (x : Tariff) : Changes [.capture, .accum, .notices, .sched, .link] s (s.switched x) :=
  ((drainAll_changes s).mono (by decide)).trans ((setAccum_changes ..).mono (by decide))

theorem switched_accum (x : Tariff) : (s.switched x).accum = { s.drainAll.accum with tariff := x } := setAccum_accum ..

theorem switched_capture (x : Tariff) : (s.switched x).capture = s.drainAll.capture := setAccum_capture ..

theorem switched_sched (x : Tariff) : (s.switched x).sched = s.drainAll.sched := setAccum_sched ..

theorem tariffSwitch_eq {x : Tariff} (h : x ≠ s.accum.tariff) : s.tariffSwitch x =
    if s.config.live.globals.commitOnTariff then (s.switched x).deliverAll (s.switched x).dirtyChannels .tariff none
    else s.switched x := by
  simp only [tariffSwitch, if_neg h, switched, setAccum_config, (drainAll_changes s).config_eq]

variable {s}

theorem tariffSwitch_switched {x : Tariff} (h : x ≠ s.accum.tariff) : Changes [.sched, .link] (s.switched x) (s.tariffSwitch x) := by
  rw [tariffSwitch_eq s h]
  split
  · exact deliverAll_changes ..
  · exact .refl ..

end State

theorem Cause.higher_tariff {x : Cause} (h : x ≠ .flush ∧ x ≠ .compact) :
    (x = .load ∨ x = .request → x.higher .tariff = x) ∧ (x ≠ .load ∧ x ≠ .request → x.higher .tariff = .tariff) := by
  cases x with
  | flush => exact absurd rfl h.1
  | compact => exact absurd rfl h.2
  | interval | threshold | tariff | request | load => exact ⟨by decide, by decide⟩

theorem causeOf_of_grown {q r : List QueueEntry} (h : ThresholdGrown q r) (c : Channel) :
    causeOf r c = causeOf q c ∨ causeOf q c = none ∧ causeOf r c = some .threshold := by
  obtain ⟨new, rfl, hnew⟩ := h
  rw [causeOf_append]
  cases hq : causeOf q c with
  | some k => exact .inl rfl
  | none =>
    rw [Option.none_or]
    cases hk : causeOf new c with
    | none => exact .inl rfl
    | some k =>
      obtain ⟨e, he, -, rfl⟩ := exists_of_causeOf hk
      exact .inr ⟨rfl, congrArg some (hnew e he).1⟩

/-- Settles O21: the switch drains under the old tariff, and what it queues merges with what the threshold step has queued. -/
theorem tariffSwitchDrainsThenQueues : Obligations.TariffSwitchDrainsThenQueues := by
  unfold Obligations.TariffSwitchDrainsThenQueues
  refine fun s x => ⟨fun h => s.tariffSwitch_active h, fun h => ?_⟩
  dsimp only
  have hrest := tariffSwitch_switched h
  have hdrained := s.drainAll_drained
  have hqueue : s.store.exhausted = false → s.config.live.globals.commitOnTariff = true →
      (s.tariffSwitch x).sched.queue = mergeAll s.drainAll.sched.queue (s.switched x).dirtyChannels .tariff none := by
    intro hstore hcommit
    rw [s.tariffSwitch_eq h, if_pos hcommit]
    rw [deliverAll_queue _ _ _ (s.switched x) (by rw [(s.switched_changes x).store_eq, hstore]), switched_sched]
  have hdirty : ∀ c, c ∈ (s.switched x).dirtyChannels ↔ (s.tariffSwitch x).dirty c = true := by
    intro c
    rw [dirtyChannels, List.mem_filter, dirty, dirty, hrest.accum_eq, hrest.store_eq]
    exact and_iff_right c.mem_all
  refine ⟨s.tariffSwitch_tariff x, ?_, fun c => ⟨?_, ?_⟩, fun hs hstore hcommit c hc => ?_, fun hstore hcommit c hc e he hec => ?_,
    fun hcommit e he => ?_, ((s.switched_changes x).mono (by decide)).trans (hrest.mono (by decide))⟩
  · rw [hrest.accum_eq, switched_accum]
    dsimp only
    exact hdrained.tsel
  · rw [hrest.accum_eq, switched_accum]
    dsimp only
    exact (hdrained.of_all c).2
  · rw [hrest.capture_eq, switched_capture]
    exact (hdrained.of_all c).1
  · have hcause : causeOf (s.tariffSwitch x).sched.queue c = some (mergedCause (causeOf s.drainAll.sched.queue c) .tariff) := by
      rw [hqueue hstore hcommit, causeOf_mergeAll, if_pos ((hdirty c).2 hc)]
    have hround := causeOf_of_grown (s.drainAll_queue hstore) c
    obtain ⟨e, he, hec, hek⟩ := exists_of_causeOf hcause
    refine ⟨e, he, hec, fun d hd hdc hkept => ?_, fun hlower => ?_⟩
    · have hd' := causeOf_of_mem hs.single hd
      rw [hdc] at hd'
      rw [hek, hround.resolve_right (by simp [hd']), hd']
      exact (Cause.higher_tariff (hs.causes d hd)).1 hkept
    · rw [hek]
      obtain hsame | ⟨-, hthreshold⟩ := hround
      · rw [hsame]
        cases hd' : causeOf s.sched.queue c with
        | none => rfl
        | some k =>
          obtain ⟨d, hd, hdc, rfl⟩ := exists_of_causeOf hd'
          exact (Cause.higher_tariff (hs.causes d hd)).2 (hlower d hd hdc)
      · rw [hthreshold]
        rfl
  · rw [hqueue hstore hcommit] at he
    have hmem := mem_of_mem_mergeAll (fun hmem => by simp [hec, hdirty, hc] at hmem) he
    obtain ⟨new, hgrown, hnew⟩ := s.drainAll_queue hstore
    obtain hq | hnewe := List.mem_append.1 (hgrown ▸ hmem)
    · exact .inl hq
    · exact .inr ⟨(hnew e hnewe).1, s.queued_eq_false_iff.2 (hec ▸ (hnew e hnewe).2)⟩
  · rw [s.tariffSwitch_eq h, if_neg (by rw [hcommit]; decide), switched_sched] at he
    cases hstore : s.store.exhausted with
    | false =>
      obtain ⟨new, hgrown, hnew⟩ := s.drainAll_queue hstore
      obtain hq | hnewe := List.mem_append.1 (hgrown ▸ he)
      · exact .inl hq
      · exact .inr ⟨(hnew e hnewe).1, s.queued_eq_false_iff.2 (hnew e hnewe).2⟩
    | true =>
      obtain hq | hq := s.drainAll_queue_of_exhausted hstore
      · exact .inl (hq ▸ he)
      · rw [hq] at he
        cases he

end Sys2Proof.Machine
end

section

-- One theorem at a time, as in the tests: many proofs elaborated at once each hold a thread's stack.
set_option Elab.async false

/-! FLUSH entry (O37). -/

namespace Sys2Proof.Machine

open State

namespace State

variable (s : State)

/-! ## FLUSH entry, block by block -/

theorem drainCounts_otherNotice {k : NoticeKind} (h : k ≠ .rollover) (c : Channel) :
    (s.drainCounts c).notices.records.get k = s.notices.records.get k := by
  rw [drainCounts_notices]
  split
  · exact s.raise_other .rollover _ h
  · rfl

/-- FLUSH entry's drains raise ROLLOVER at most (R20, R26). -/
theorem drainCountsAll_otherNotice {k : NoticeKind} (h : k ≠ .rollover) :
    s.drainCountsAll.notices.records.get k = s.notices.records.get k := by
  unfold drainCountsAll
  exact List.foldlRecOn (motive := fun x => x.notices.records.get k = s.notices.records.get k) Channel.all drainCounts (b := s)
    rfl fun x hx c _ => (x.drainCounts_otherNotice h c).trans hx

theorem enterFlush_accum : s.enterFlush.accum = s.flushDrained.accum := by
  rw [enterFlush_eq, (closeSession_changes ..).accum_eq, (cancelAll_changes _).accum_eq, (abortErase_changes _).accum_eq,
    (cutHolder_changes _).accum_eq]
  unfold flushListed
  rw [setSched_accum]

theorem flushDrained_changes : Changes [.power, .capture, .accum, .notices] s s.flushDrained := by
  unfold flushDrained
  exact (((setPower_changes ..).mono (by decide)).trans ((captureFreeze_changes _).mono (by decide))).trans
    ((drainCountsAll_changes _).mono (by decide))

theorem flushListed_store : s.flushListed.store = s.store := by
  unfold flushListed
  rw [setSched_store, s.flushDrained_changes.store_eq]

/-- Between the flush list and the session's close the holder, the operation and the link change at most. -/
theorem flushCut_changes : Changes [.store, .link] s.flushListed s.flushListed.cutHolder.abortErase.cancelAll :=
  (((cutHolder_changes _).mono (by decide)).trans ((abortErase_changes _).mono (by decide))).trans
    ((cancelAll_changes _).mono (by decide))

theorem cutHolder_table : s.cutHolder.store = { s.store with holder := s.cutHolder.store.holder } := by
  unfold cutHolder
  split
  · rfl
  · split
    · split <;> rfl
    · rfl

theorem abortErase_table : s.abortErase.store = { s.store with op := s.abortErase.store.op } := by
  unfold abortErase
  split
  · split <;> rfl
  · rfl

theorem cutHolder_holder {h : Hold} {j : CommitJob} (hop : s.store.op ≠ none) (hh : s.store.holder = some h)
    (hj : h.job = .commit j) : s.cutHolder.store.holder = some { h with job := .commit { j with waiters := [] } } := by
  unfold cutHolder
  rw [if_neg (by simpa using hop)]
  simp only [hh, hj]
  rfl

/-- FLUSH entry leaves the table, the map and the sequence; of the holder it drops the waiters (R54). -/
theorem enterFlush_store : s.enterFlush.store =
    { s.store with op := s.enterFlush.store.op, holder := s.flushListed.cutHolder.store.holder } := by
  rw [enterFlush_eq, (closeSession_changes ..).store_eq, (cancelAll_changes _).store_eq, abortErase_table, cutHolder_table,
    flushListed_store]

/-- The flush list is the channels dirty after FLUSH entry's drains, ascending (R122). -/
theorem enterFlush_dirtyChannels : s.flushDrained.dirtyChannels =
    Channel.all.filter (fun c => (s.enterFlush.accum.accounts.get c).version != (s.store.map.get c).version) := by
  unfold dirtyChannels
  refine List.filter_congr fun c _ => ?_
  rw [dirty, enterFlush_accum, s.flushDrained_changes.store_eq]

theorem closeSession_opened {n : Nat} (h : s.service.session = .opened n) (x : CloseReason) : s.closeSession (some x) =
    ((s.setService { s.service with session := .closed }).setConfig { s.config with staged := s.config.live }).raise .service
      (.reasons x.bit) := by
  simp only [closeSession, h]
  rfl

theorem closeSession_of_closed (h : s.service.session = .closed) (x : Option CloseReason) : s.closeSession x = s := by
  simp only [closeSession, h]

theorem closeSession_live (x : Option CloseReason) : (s.closeSession x).config.live = s.config.live := by
  unfold closeSession
  split
  · rfl
  · dsimp only
    split
    · rw [(raise_changes ..).config_eq]; rfl
    · rfl

end State

theorem exec_pfailActive {s : State} (hpower : s.supply.powered = true) (hdevice : s.power.device = .run)
    (hpfail : s.power.pfailFiltered = false) : exec .pfailActive s = .next (s.setPfail true).flushEntry := by
  refine congrArg Host.Outcome.next ((if_pos (by simp [hpower, hpfail])).trans ?_)
  unfold pfailRises
  dsimp only
  split
  · rfl
  all_goals next hother => cases hdevice.symm.trans hother

/-- Settles O37: FLUSH entry's effects on every block. -/
theorem pfailActiveInRunEntersFlush : Obligations.PfailActiveInRunEntersFlush := by
  unfold Obligations.PfailActiveInRunEntersFlush
  intro s op hpower hdevice hpfail hop
  refine ⟨(s.setPfail true).enterFlush, ?_, ?_⟩
  · rw [exec_pfailActive hpower hdevice hpfail, flushEntry_of_op (s.setPfail true) (op := op) hop]
  have hu : (s.setPfail true).power = { s.power with pfailSync := true, pfailFiltered := true, pfailRun := 0 } := rfl
  have hc : Changes [.power] s (s.setPfail true) := setPower_changes ..
  generalize s.setPfail true = u at *
  have hlisted := u.flushDrained_changes
  have hcut := u.flushCut_changes
  have hdrained := u.flushDrained_drained
  have hstore := u.enterFlush_store
  obtain ⟨hcredits, hreceiver, hgap, hreplies⟩ := u.enterFlush_link
  have hsched : u.enterFlush.sched = { queue := [], headWaiting := false, interval := s.sched.interval
                                       flushList := u.flushDrained.dirtyChannels } := by
    rw [enterFlush_sched, flushListed, setSched_sched, hlisted.sched_eq, hc.sched_eq]
  refine ⟨?_, u.enterFlush_frozen, fun c => ⟨?_, ?_⟩, ?_, ?_, ?_, ?_, ?_, ?_, ?_, fun h j hh hj => ?_, u.enterFlush_requests,
    u.enterFlush_jobs, ?_, ?_, ?_, ?_, u.enterFlush_session, ?_, fun hopen => ?_, ?_, ?_⟩
  · rw [enterFlush_power, hu]
  · rw [enterFlush_capture, (hdrained.of_all c).1, ← hc.capture_eq]
    rfl
  · rw [enterFlush_accum, (hdrained.of_all c).2, drainCounts_account, drainCounts_account, drainedAccount, drainedAccount,
      liveChannel, liveChannel, ← hc.accum_eq, ← hc.config_eq, ← hc.capture_eq]
    rfl
  · rw [enterFlush_accum, hdrained.tariff, ← hc.accum_eq]
    rfl
  · rw [enterFlush_accum, hdrained.tsel, ← hc.accum_eq]
    rfl
  · rw [hsched, enterFlush_dirtyChannels, hc.store_eq]
  · rw [enterFlush_op, hc.store_eq, hop]
    rfl
  · rw [hstore, hc.store_eq]
  · rw [hstore, hc.store_eq]
  · rw [hstore, hc.store_eq]
  · rw [hstore, cutHolder_holder u.flushListed (h := h) (j := j) _ _ hj]
    · rw [flushListed_store, hc.store_eq, hop]
      exact Option.some_ne_none op
    · rw [flushListed_store, hc.store_eq, hh]
  · rw [hcredits, hc.link_eq]
  · rw [hreplies, hc.link_eq, ← List.append_assoc]
    simp only [answering_job]
    rfl
  · rw [hreceiver, hc.link_eq]
  · rw [hgap, hc.link_eq]
  · rw [enterFlush_eq, closeSession_live, hcut.config_eq, flushListed, setSched_config, hlisted.config_eq, hc.config_eq]
  · have hservice : u.flushListed.cutHolder.abortErase.cancelAll.service = s.service := by
      rw [hcut.service_eq, flushListed, setSched_service, hlisted.service_eq, hc.service_eq]
    have hconfig : u.flushListed.cutHolder.abortErase.cancelAll.config = s.config := by
      rw [hcut.config_eq, flushListed, setSched_config, hlisted.config_eq, hc.config_eq]
    have hnotice : u.flushListed.cutHolder.abortErase.cancelAll.notices.records.get .service =
        s.notices.records.get .service := by
      rw [hcut.notices_eq, flushListed, setSched_notices, flushDrained, drainCountsAll_otherNotice _ (by decide),
        ← hc.notices_eq]
      rfl
    rw [enterFlush_eq]
    generalize u.flushListed.cutHolder.abortErase.cancelAll = v at *
    cases hsession : s.service.session with
    | closed => exact absurd hsession hopen
    | opened n =>
      rw [closeSession_opened v (hservice ▸ hsession), raise_record]
      refine ⟨?_, _, ?_, rfl⟩
      · rw [(raise_changes ..).config_eq, setConfig_config, hconfig]
      · rw [setConfig_notices, setService_notices, hnotice]
        rfl
  · rw [(enterFlush_changes u).engine_eq, hc.engine_eq]
  · rw [(enterFlush_changes u).array_eq, hc.array_eq]

end Sys2Proof.Machine
end

section

-- One theorem at a time, as in the tests: many proofs elaborated at once each hold a thread's stack.
set_option Elab.async false

/-! The compaction engine's steps (O24) and the attempts of a job (O25). -/

namespace Sys2Proof.Machine

open State

/-! ## The first and the best of the ring sectors -/

theorem RingSector.all_split (k : RingSector) : all = all.take (k.toNat - 2) ++ k :: all.drop (k.toNat - 1) := by
  cases k <;> rfl

theorem RingSector.toNat_lt_of_mem_take (k : RingSector) : ∀ r ∈ all.take (k.toNat - 2), r.toNat < k.toNat := by
  cases k <;> decide

theorem RingSector.toNat_lt_of_mem_drop (k : RingSector) : ∀ r ∈ all.drop (k.toNat - 1), k.toNat < r.toNat := by
  cases k <;> decide

theorem RingSector.eq_of_toNat {r q : RingSector} (h : r.toNat = q.toNat) : r = q := by
  cases r <;> cases q <;> first | rfl | cases h

/-- The lowest-numbered ring sector that passes a test is the one a search finds. -/
theorem RingSector.find?_all {p : RingSector → Bool} {k : RingSector} (hk : p k = true)
    (hfirst : ∀ r : RingSector, r.toNat < k.toNat → p r = false) : RingSector.all.find? p = some k := by
  rw [k.all_split, List.find?_append, List.find?_eq_none.2, Option.none_or, List.find?_cons_of_pos hk]
  exact fun r hr => by simp [hfirst r (k.toNat_lt_of_mem_take r hr)]

/-- One step of a search for the best ring sector. -/
def betterOf (better : RingSector → RingSector → Prop) [DecidableRel better] (best : Option RingSector) (r : RingSector) :
    Option RingSector :=
  match best with
  | none => some r
  | some b => if better r b then some r else some b

section

variable {better : RingSector → RingSector → Prop} [DecidableRel better]

theorem foldl_betterOf_mem : ∀ (l : List RingSector) (o : Option RingSector) (b : RingSector),
    l.foldl (betterOf better) o = some b → o = some b ∨ b ∈ l
  | [], _, _, h => .inl h
  | r :: l, o, b, h => by
    obtain hstep | hl := foldl_betterOf_mem l _ b h
    · unfold betterOf at hstep
      split at hstep
      · exact .inr (Option.some.inj hstep ▸ List.mem_cons_self)
      · split at hstep
        · exact .inr (Option.some.inj hstep ▸ List.mem_cons_self)
        · exact .inl hstep
    · exact .inr (List.mem_cons_of_mem _ hl)

theorem foldl_betterOf_stays {k : RingSector} : ∀ {l : List RingSector}, (∀ r ∈ l, ¬ better r k) →
    l.foldl (betterOf better) (some k) = some k
  | [], _ => rfl
  | r :: l, h => by
    obtain ⟨hr, hl⟩ := List.forall_mem_cons.1 h
    rw [List.foldl_cons, betterOf, if_neg hr, foldl_betterOf_stays hl]

/-- The best ring sector that passes a test, the lowest number among equals. -/
theorem RingSector.foldl_betterOf {p : RingSector → Bool} {k : RingSector} (hk : p k = true)
    (hbefore : ∀ r : RingSector, r.toNat < k.toNat → p r = true → better k r)
    (hafter : ∀ r : RingSector, k.toNat < r.toNat → p r = true → ¬ better r k) :
    (RingSector.all.filter p).foldl (betterOf better) none = some k := by
  rw [k.all_split, List.filter_append, List.filter_cons_of_pos hk, List.foldl_append, List.foldl_cons]
  have hstep : betterOf better ((all.take (k.toNat - 2)).filter p |>.foldl (betterOf better) none) k = some k := by
    unfold betterOf
    split
    · rfl
    · next b hb =>
      obtain hb | hb := foldl_betterOf_mem _ _ _ hb
      · cases hb
      · obtain ⟨hb, hpb⟩ := List.mem_filter.1 hb
        exact if_pos (hbefore b (k.toNat_lt_of_mem_take b hb) hpb)
  rw [hstep]
  refine foldl_betterOf_stays fun r hr => ?_
  obtain ⟨hr, hpr⟩ := List.mem_filter.1 hr
  exact hafter r (k.toNat_lt_of_mem_drop r hr) hpr

theorem RingSector.foldl_betterOf_none {p : RingSector → Bool} (h : ∀ r, p r = false) :
    (RingSector.all.filter p).foldl (betterOf better) none = none := by
  rw [List.filter_eq_nil_iff.2 fun r _ => by simp [h r]]
  rfl

end

/-! ## COPY -/

theorem channels_split (c : Channel) : Channel.all = Channel.all.take c.toNat ++ c :: Channel.all.drop (c.toNat + 1) := by
  cases c <;> rfl

theorem channel_toNat_lt_of_mem_take (c : Channel) : ∀ b ∈ Channel.all.take c.toNat, b.toNat < c.toNat := by
  cases c <;> decide

namespace State

variable (s : State)

/-- A channel's record, if it stands at a copy position's channel or above and lies in the target (R87). -/
def copyAt? (t : RingSector) (position : Nat) (c : Channel) : Option (Channel × Location) :=
  match (s.store.map.get c).designated with
  | some d => if position ≤ c.toNat ∧ d.location.sector = t then some (c, d.location) else none
  | none => none

theorem nextCopy?_eq (t : RingSector) (position : Nat) : s.nextCopy? t position = Channel.all.findSome? (s.copyAt? t position) := rfl

variable {s} {t : RingSector} {position : Nat} {c : Channel} {d : Designation}

theorem copyAt?_some (hp : position ≤ c.toNat) (hd : (s.store.map.get c).designated = some d) (ht : d.location.sector = t) :
    s.copyAt? t position c = some (c, d.location) := by
  rw [copyAt?, hd]
  exact if_pos ⟨hp, ht⟩

theorem copyAt?_none (h : ∀ d : Designation, position ≤ c.toNat → (s.store.map.get c).designated = some d → d.location.sector ≠ t) :
    s.copyAt? t position c = none := by
  unfold copyAt?
  split
  · next d hd => exact if_neg fun hin => h d hin.1 hd hin.2
  · rfl

/-- With no record left in the target MARK begins (R87, R90). -/
theorem examine_none (h : ∀ (c : Channel) (d : Designation), position ≤ c.toNat → (s.store.map.get c).designated = some d →
    d.location.sector ≠ t) : s.examine t position = s.beginMark t := by
  have hnone : s.nextCopy? t position = none := by
    rw [nextCopy?_eq]
    exact List.findSome?_eq_none_iff.2 fun c _ => copyAt?_none (h c)
  simp only [examine, hnone]

/-- The first channel whose record lies in the target is read (R87, R88). -/
theorem examine_some (hp : position ≤ c.toNat) (hd : (s.store.map.get c).designated = some d) (ht : d.location.sector = t)
    (hfirst : ∀ (b : Channel) (d : Designation), position ≤ b.toNat → b.toNat < c.toNat →
      (s.store.map.get b).designated = some d → d.location.sector ≠ t) : s.examine t position =
    ((s.setPhase (.copy t c.toNat)).setHolder
      (some { job := .reading c t, attempts := 0, place := none, sequence := 0, fault := none })).beginOp .copyRead
        (.ring t) d.location.slot 0 [] := by
  have hfound : s.nextCopy? t position = some (c, d.location) := by
    rw [nextCopy?_eq, channels_split c, List.findSome?_append, List.findSome?_eq_none_iff.2, Option.none_or, List.findSome?_cons,
      copyAt?_some hp hd ht]
    exact fun b hb => copyAt?_none fun d' hp' => hfirst b d' hp' (channel_toNat_lt_of_mem_take c b hb)
  simp only [examine, hfound, ht]

variable (s) in
theorem copyTarget?_eq : s.copyTarget? = (RingSector.all.filter (fun r => (s.store.table.get r).state.isFilled)).foldl
    (betterOf (fun r b => s.filledEpoch r < s.filledEpoch b)) none := rfl

theorem filledEpoch_eq {e : Nat} (h : (s.store.table.get t).state = .filled e) : s.filledEpoch t = e := by
  simp only [filledEpoch, entry, h]

theorem isFilled_iff {x : SectorState} : x.isFilled = true ↔ ∃ e, x = .filled e := by
  cases x <;> simp [SectorState.isFilled]

/-- The FILLED sector of the lowest epoch is the one an IDLE engine copies from (R85). -/
theorem copyTarget?_eq_some {e : Nat} (ht : (s.store.table.get t).state = .filled e)
    (hleast : ∀ r e', r ≠ t → (s.store.table.get r).state = .filled e' → e < e') : s.copyTarget? = some t := by
  have hless : ∀ r : RingSector, r ≠ t → (s.store.table.get r).state.isFilled = true → s.filledEpoch t < s.filledEpoch r := by
    intro r hr hfilled
    obtain ⟨e', he'⟩ := isFilled_iff.1 hfilled
    rw [filledEpoch_eq ht, filledEpoch_eq he']
    exact hleast r e' hr he'
  rw [copyTarget?_eq]
  refine RingSector.foldl_betterOf (isFilled_iff.2 ⟨e, ht⟩) (fun r hr hfilled => hless r ?_ hfilled) fun r hr hfilled hlt => ?_
  · rintro rfl
    exact absurd hr (lt_irrefl _)
  · refine absurd (hless r ?_ hfilled) (Nat.lt_asymm hlt)
    rintro rfl
    exact absurd hr (lt_irrefl _)

theorem eraseTarget?_eq_none (h : ∀ r, (s.store.table.get r).state.owesErase = false) : s.eraseTarget? = none :=
  List.find?_eq_none.2 fun r _ => by simp [entry, h r]

end State

/-- Settles O24: each phase's step begins the operation the chapter gives it. -/
theorem compactionStepsFollowThePhase : Obligations.CompactionStepsFollowThePhase := by
  unfold Obligations.CompactionStepsFollowThePhase
  intro s t
  dsimp only
  refine ⟨fun hphase howes hfirst => ?_, fun e hphase hnone ht hleast => ?_, fun p hphase => ?_, fun hphase => ?_,
    fun n hphase => ?_, fun hphase => ?_⟩
  · have htarget : s.eraseTarget? = some t := RingSector.find?_all howes hfirst
    simp only [engineStep, hphase, htarget]
    rfl
  · have hstep : s.engineStep = s.examine t 0 := by
      simp only [engineStep, hphase, eraseTarget?_eq_none hnone, copyTarget?_eq_some ht hleast]
    rw [hstep]
    exact ⟨fun h => examine_none h, fun c d hp hd hdt hfirst => examine_some hp hd hdt hfirst⟩
  · have hstep : s.engineStep = s.examine t p := by simp only [engineStep, hphase]
    rw [hstep]
    exact ⟨fun h => examine_none h, fun c d hp hd hdt hfirst => examine_some hp hd hdt hfirst⟩
  · simp only [engineStep, hphase]
    rfl
  · simp only [engineStep, hphase]
    rfl
  · simp only [engineStep, hphase]
    rw [← hphase]
    rfl

/-! ## Attempts -/

namespace State

variable {s : State} {h : Hold}

theorem minimum_eq (j : WriteJob) : j.minimum =
    match j with
    | .commit j => if j.cause = .flush then 1 else 17
    | _ => 1 := by
  cases j <;> rfl

/-- An attempt's record program begins in the slot it takes (R67, R72, R73). -/
theorem beginRecord_eq {content : RecordContent} (hc : h.job.content = some content) (r : RingSector) (ep n : Nat) :
    s.beginRecord h r ep n =
      { s with
        store :=
          { s.store with
            op := some
              { task := .recordProgram, sector := .ring r, slot := n, offset := 0
                bytes := recordBytes content s.store.nextSequence, aborting := false }
            holder := some { h with place := some { sector := r, slot := n }, sequence := s.store.nextSequence }
            table := s.store.table.set r { s.store.table.get r with state := .opened ep (n + 1) }
            nextSequence := s.store.nextSequence + 1 } } := by
  simp only [beginRecord, hc]
  rfl

theorem takeSlot_open {r : RingSector} {ep n : Nat} (hopen : s.openSector? = some r)
    (hstate : (s.store.table.get r).state = .opened ep n) (hn : n < 32) : s.takeSlot h = s.beginRecord h r ep n := by
  simp only [takeSlot, hopen, entry, hstate]
  exact if_pos hn

/-- With no OPEN sector, or a full one, an attempt opens a head (R67, R68). -/
theorem takeSlot_full (hfull : s.openSector? = none ∨ ∃ r ep n, s.openSector? = some r ∧
    (s.store.table.get r).state = .opened ep n ∧ 32 ≤ n) : s.takeSlot h = s.openHead h := by
  obtain hopen | ⟨r, ep, n, hopen, hstate, hn⟩ := hfull
  · simp only [takeSlot, hopen]
  · simp only [takeSlot, hopen, entry, hstate]
    exact if_neg (Nat.not_lt.2 hn)

variable (s) in
/-- The ring sector table replaced. -/
def setTable (table : PerRing SectorEntry) : State := s.setStore { s.store with table := table }

theorem fillFullHead_eq {filled : PerRing SectorEntry}
    (hfilled : (s.openSector? = none ∧ filled = s.store.table) ∨
      ∃ r ep n, s.openSector? = some r ∧ (s.store.table.get r).state = .opened ep n ∧ 32 ≤ n ∧
        filled = s.store.table.set r { s.store.table.get r with state := .filled ep }) : s.fillFullHead = s.setTable filled := by
  obtain ⟨hopen, rfl⟩ | ⟨r, ep, n, hopen, hstate, hn, rfl⟩ := hfilled
  · simp only [fillFullHead, hopen]
    rfl
  · simp only [fillFullHead, hopen, entry, hstate]
    exact if_pos hn

theorem openHead_eq (h : Hold) : s.openHead h =
    match s.fillFullHead.headCandidate? with
    | none => s.fillFullHead.jobFails h
    | some r =>
      (s.fillFullHead.setStore
        { s.fillFullHead.store with
          highestEpoch := s.fillFullHead.store.highestEpoch + 1, holder := some { h with place := none } }).beginOp
        .epochProgram (.ring r) 0 epochOffset (epochBytes (s.fillFullHead.store.highestEpoch + 1)) := rfl

variable (s) in
theorem headCandidate?_eq : s.headCandidate? = (RingSector.all.filter (fun r => (s.store.table.get r).state.isErased)).foldl
    (betterOf (fun r b => (s.store.table.get r).eraseCount < (s.store.table.get b).eraseCount)) none := rfl

theorem isErased_iff {x : SectorState} : x.isErased = true ↔ x = .erased := by
  cases x <;> simp [SectorState.isErased]

/-- The ERASED sector of the lowest erase count, the lowest number among equals, is the candidate (R68). -/
theorem headCandidate?_eq_some {k : RingSector} (hk : (s.store.table.get k).state = .erased)
    (hleast : ∀ q, q ≠ k → (s.store.table.get q).state = .erased →
      (s.store.table.get k).eraseCount < (s.store.table.get q).eraseCount ∨
        ((s.store.table.get k).eraseCount = (s.store.table.get q).eraseCount ∧ k.toNat < q.toNat)) :
    s.headCandidate? = some k := by
  rw [headCandidate?_eq]
  refine RingSector.foldl_betterOf (isErased_iff.2 hk) (fun r hr herased => ?_) fun r hr herased hlt => ?_
  · have hne : r ≠ k := fun h => absurd (h ▸ hr) (lt_irrefl _)
    exact (hleast r hne (isErased_iff.1 herased)).resolve_right fun h => absurd h.2 (Nat.lt_asymm hr)
  · have hne : r ≠ k := fun h => absurd (h ▸ hr) (lt_irrefl _)
    obtain h | h := hleast r hne (isErased_iff.1 herased)
    · exact absurd h (Nat.lt_asymm hlt)
    · exact absurd hlt (by rw [h.1]; exact lt_irrefl _)

theorem headCandidate?_eq_none (h : ∀ k, (s.store.table.get k).state ≠ .erased) : s.headCandidate? = none := by
  rw [headCandidate?_eq]
  exact RingSector.foldl_betterOf_none fun r => eq_false_of_ne_true (mt isErased_iff.1 (h r))

end State

/-- Settles O25: an attempt fails below its minimum, takes the OPEN sector's slot, or opens a head. -/
theorem attemptsTakeTheNextSlotOrOpenAHead : Obligations.AttemptsTakeTheNextSlotOrOpenAHead := by
  unfold Obligations.AttemptsTakeTheNextSlotOrOpenAHead
  intro s h content hc
  dsimp only
  have hminimum := minimum_eq h.job
  refine ⟨fun hfew => if_pos (Nat.not_le.1 fun hle => hfew (hminimum.symm.trans_le hle)),
    fun henough r ep n hopen hstate hn => ?_, fun henough filled hfilled => ?_⟩
  all_goals have henough : h.job.minimum ≤ s.freeSlots := hminimum.trans_le henough
  · rw [nextAttempt, if_neg (Nat.not_lt.2 henough), takeSlot_open hopen hstate hn, beginRecord_eq hc]
  · have hfull : s.openSector? = none ∨ ∃ r ep n, s.openSector? = some r ∧
        (s.store.table.get r).state = .opened ep n ∧ 32 ≤ n :=
      hfilled.imp And.left fun ⟨r, ep, n, hopen, hstate, hn, _⟩ => ⟨r, ep, n, hopen, hstate, hn⟩
    rw [nextAttempt, if_neg (Nat.not_lt.2 henough), takeSlot_full hfull, openHead_eq, fillFullHead_eq hfilled]
    refine ⟨fun k hk hleast => ?_, fun hnone => ?_⟩
    · rw [headCandidate?_eq_some (s := s.setTable filled) hk hleast]
      rfl
    · rw [headCandidate?_eq_none (s := s.setTable filled) hnone]
      rfl

end Sys2Proof.Machine
end

section

-- One theorem at a time, as in the tests: many proofs elaborated at once each hold a thread's stack.
set_option Elab.async false

/-! The arbiter's choices in RUN (O22, O23). -/

namespace Sys2Proof.Machine

open State

namespace State

variable {s : State}

/-! ## One choice after another -/

theorem arrayFree_iff : s.arrayFree = true ↔ s.store.op = none ∧ s.store.holder = none := by
  simp [arrayFree]

theorem arbitrateRun_of_taken (h : s.arrayFree = false) : ∀ n, arbitrateRun n s = s
  | 0 => rfl
  | _ + 1 => if_neg (by rw [h]; decide)

/-- Where the arbiter's choice changes nothing, no further choice does. -/
theorem arbitrateRun_of_fixed (h : s.chooseRun = s) : ∀ n, arbitrateRun n s = s
  | 0 => rfl
  | n + 1 => by
    unfold arbitrateRun
    split
    · rw [h, arbitrateRun_of_fixed h n]
    · rfl

theorem beginOp_taken (x : Task) (k : Sector) (n off : Nat) (bs : List Byte) : (s.beginOp x k n off bs).arrayFree = false := rfl

theorem examine_taken (t : RingSector) (n : Nat) : (s.examine t n).arrayFree = false := by
  unfold examine
  split <;> rfl

/-- A step of the engine begins an operation, unless it finds no sector. -/
theorem engineStep_taken : s.engineStep.arrayFree = false ∨ s.engineStep = s := by
  unfold engineStep
  split
  · split
    · exact .inl rfl
    · split
      · exact .inl (examine_taken ..)
      · exact .inr rfl
  · exact .inl (examine_taken ..)
  all_goals exact .inl rfl

theorem arbitrateRun_engineStep (h : s.chooseRun = s.engineStep) (n : Nat) : arbitrateRun n s.engineStep = s.engineStep := by
  obtain htaken | hsame := s.engineStep_taken
  · exact arbitrateRun_of_taken htaken n
  · rw [hsame]
    exact arbitrateRun_of_fixed (h.trans hsame) n

theorem arbitrateRun_compactIfReady (h : s.chooseRun = s.compactIfReady) (n : Nat) :
    arbitrateRun n s.compactIfReady = s.compactIfReady := by
  unfold compactIfReady at *
  split at h
  · next hready =>
    rw [if_pos hready]
    exact arbitrateRun_engineStep h n
  · next hready =>
    rw [if_neg hready]
    exact arbitrateRun_of_fixed h n

theorem arbiter_of_taken (h : s.arrayFree = false) : s.arbiter = s := by
  cases hdevice : s.power.device with
  | run => rw [arbiter_of_run s hdevice, arbiterRun, arbitrateRun_of_taken h]
  | flush => simp [arbiter, hdevice, h]
  | start | retain => simp [arbiter, hdevice]

/-- In RUN the arbiter chooses once, and again while the array stays free (R77). -/
theorem arbiter_eq (run : s.power.device = .run) (hfree : s.arrayFree = true) :
    s.arbiter = arbitrateRun (s.sched.queue.length + s.link.jobs.length) s.chooseRun := by
  rw [arbiter_of_run s run, arbiterRun, choices]
  exact if_pos hfree

theorem arbiter_of_taking (run : s.power.device = .run) (hfree : s.arrayFree = true) (h : s.chooseRun.arrayFree = false) :
    s.arbiter = s.chooseRun := by
  rw [arbiter_eq run hfree, arbitrateRun_of_taken h]

theorem startTransmitter_choices : s.startTransmitter.choices = s.choices := by
  unfold startTransmitter
  split <;> rfl

theorem startTransmitter_arbiter (run : s.power.device = .run) :
    s.startTransmitter.arbiter = arbitrateRun s.choices s.startTransmitter := by
  rw [arbiter_of_run _ (by rw [(startTransmitter_changes s).power_eq, run]), arbiterRun, startTransmitter_choices]

/-! ## What a choice is -/

/-- No compaction step is urgent, or none is owed (R86). -/
def calm (s : State) : Prop := (s.engineReady && s.urgent) = false

theorem calm_iff : s.calm ↔ s.engineReady = false ∨ (2 ≤ s.erasedSectors ∧ s.sched.headWaiting = false) := by
  cases h : s.engineReady <;> simp [calm, urgent, h, Nat.lt_iff_add_one_le]

theorem chooseRun_urgent (hready : s.engineReady = true) (hurgent : s.erasedSectors ≤ 1 ∨ s.sched.headWaiting = true) :
    s.chooseRun = s.engineStep := by
  refine if_pos ?_
  simpa [hready, urgent] using hurgent

theorem chooseRun_job {j : HostJob} (hcalm : s.calm) (hj : s.arrayJob? = some j) : s.chooseRun = s.jobStep j := by
  unfold chooseRun
  rw [if_neg (by rw [hcalm]; decide), hj]

theorem chooseRun_head (hcalm : s.calm) (hj : s.arrayJob? = none) (hstore : s.store.exhausted = false) :
    s.chooseRun = s.takeHead := by
  unfold chooseRun
  rw [if_neg (by rw [hcalm]; decide), hj]
  exact if_neg (by rw [hstore]; decide)

theorem chooseRun_exhausted (hj : s.arrayJob? = none) (hstore : s.store.exhausted = true) : s.chooseRun = s := by
  unfold chooseRun
  rw [if_neg (by simp [engineReady, hstore]), hj]
  exact if_pos hstore

theorem takeHead_empty (hq : s.sched.queue = []) : s.takeHead = s.compactIfReady := by
  simp only [takeHead, hq]

/-- The scheduler with its head waiting for space (R46). -/
def headWaits (s : State) : State := s.setSched { s.sched with headWaiting := true }

theorem takeHead_waits (hq : s.sched.queue ≠ []) (hfew : s.freeSlots < 17) : s.takeHead = s.headWaits.compactIfReady := by
  unfold takeHead
  split
  · next hq' => exact absurd hq' hq
  · exact if_neg (Nat.not_le.2 hfew)

theorem takeHead_takes {e : QueueEntry} {q : List QueueEntry} (hq : s.sched.queue = e :: q) (hfree : 17 ≤ s.freeSlots) :
    s.takeHead = (s.setSched { s.sched with queue := q, headWaiting := false }).startCommit e := by
  simp only [takeHead, hq]
  exact if_pos hfree

/-- A head that waits makes the engine's step the next choice, and then nothing but that (R46, R86; log 27). -/
theorem chooseRun_headWaits (hcalm : s.engineReady = false ∨ s.headWaits.engineReady = true) (hj : s.arrayJob? = none)
    (hstore : s.store.exhausted = false) (hq : s.sched.queue ≠ []) (hfew : s.freeSlots < 17) :
    s.headWaits.chooseRun = s.headWaits.compactIfReady := by
  obtain hready | hready := hcalm
  · have hhead := chooseRun_head (s := s.headWaits) (calm_iff.2 (.inl hready)) hj hstore
    rw [hhead, takeHead_waits (s := s.headWaits) hq hfew]
    rfl
  · rw [chooseRun_urgent hready (.inr rfl)]
    exact (if_pos hready).symm

/-! ## Array host jobs -/

theorem job?_of_slots {j : HostJob} (hslots : (s.link.jobs.map HostJob.slot).Nodup) (hj : j ∈ s.link.jobs) :
    s.job? j.slot = some j := by
  unfold job?
  generalize s.link.jobs = l at *
  induction l with
  | nil => cases hj
  | cons x l ih =>
    obtain ⟨hx, hl⟩ := List.nodup_cons.1 hslots
    obtain rfl | hj := List.mem_cons.1 hj
    · rw [List.find?_cons_of_pos (by simp)]
    · have hne : x.slot ≠ j.slot := fun h => hx (h ▸ List.mem_map_of_mem hj)
      rw [List.find?_cons_of_neg (by simp [hne]), ih hl hj]

theorem job?_of_mem {j : HostJob} (hs : LinkLaw s) (hj : j ∈ s.link.jobs) : s.job? j.slot = some j :=
  job?_of_slots hs.slots hj

theorem arrayJob?_mem {j : HostJob} (hj : s.arrayJob? = some j) : j ∈ s.link.jobs := List.mem_of_find?_eq_some hj

/-- A job's state replaced by itself is no change. -/
theorem setJobState_self {j : HostJob} (hs : LinkLaw s) (hj : j ∈ s.link.jobs) : s.setJobState j.slot j.state = s := by
  have hjobs : s.link.jobs.map (fun x => if x.slot = j.slot then { x with state := j.state } else x) = s.link.jobs := by
    refine (List.map_congr_left fun x hx => ?_).trans (List.map_id _)
    split
    · next hslot =>
      have hsame := (job?_of_mem hs hx).symm.trans (hslot ▸ job?_of_mem hs hj)
      rw [← Option.some.inj hsame]
      rfl
    · rfl
  unfold setJobState
  rw [hjobs]
  rfl

theorem jobStep_readSlot {j : HostJob} {k : Sector} {n : Nat} (hj : j.state = .readSlot k n) :
    s.jobStep j = s.beginOp .slotRead k n 0 [] := by
  simp only [jobStep, hj]

theorem jobStep_program {j : HostJob} {image : Configuration} {p : ApplyProgress} {k : Nat} (hs : LinkLaw s) (hmem : j ∈ s.link.jobs)
    (hj : j.state = .apply image (some p)) (hp : p.step = .program k) :
    s.jobStep j = s.beginOp .imageProgram p.target.sector k 0 (imageSlotBytes image p.generation k) := by
  simp only [jobStep, hj, beginApplyStep, hp]
  rw [← hj, setJobState_self hs hmem]

theorem jobStep_first {j : HostJob} {image : Configuration} (hj : j.state = .apply image none)
    (hgeneration : s.config.generation < 200000) : s.jobStep j =
      (s.setJobState j.slot (.apply image
        (some { target := applyTarget s.config.liveSector, generation := s.config.generation + 1, step := .erase }))).beginOp
          .configErase (applyTarget s.config.liveSector).sector 0 0 [] := by
  simp only [jobStep, hj]
  exact if_neg (Nat.not_le.2 hgeneration)

theorem jobStep_limit {j : HostJob} {image : Configuration} (hj : j.state = .apply image none)
    (hgeneration : 200000 ≤ s.config.generation) : s.jobStep j = s.endJob j.slot (Answer.refuse .storeExhausted) := by
  simp only [jobStep, hj]
  exact if_pos hgeneration

/-- A job's end leaves one job fewer (R164). -/
theorem endJob_jobs_length {j : HostJob} (hs : LinkLaw s) (hmem : j ∈ s.link.jobs) :
    (s.link.jobs.filter (fun x => x.slot ≠ j.slot)).length + 1 = s.link.jobs.length := by
  rw [← eraseP_slot_eq_filter hs.slots, List.length_eraseP_of_mem hmem (by simp)]
  exact Nat.sub_add_cancel (List.length_pos_of_mem hmem)

end State

theorem applyTarget_eq {live : Option ConfigSector} {target : ConfigSector} (ha : live = some .a → target = .b)
    (hother : live ≠ some .a → target = .a) : applyTarget live = target := by
  obtain _ | _ | _ := live
  · exact (hother (by decide)).symm
  · exact (ha rfl).symm
  · exact (hother (by decide)).symm

/-- Settles O22: the choices in their order, each of which takes the array, ends a job or leaves a state no choice changes. -/
theorem arbiterChoosesByRank : Obligations.ArbiterChoosesByRank := by
  unfold Obligations.ArbiterChoosesByRank
  intro s
  dsimp only
  refine ⟨fun hidle => ?_, fun run hop hholder => ?_⟩
  · obtain hop | hholder | hdevice | hdevice := hidle
    · exact arbiter_of_taken (eq_false_of_ne_true fun h => hop (arrayFree_iff.1 h).1)
    · exact arbiter_of_taken (eq_false_of_ne_true fun h => hholder (arrayFree_iff.1 h).2)
    · simp [arbiter, hdevice]
    · simp [arbiter, hdevice]
  have hfree : s.arrayFree = true := arrayFree_iff.2 ⟨hop, hholder⟩
  refine ⟨fun hready hurgent => ?_, fun hcalm => ?_, fun hstore hj => ?_⟩
  · rw [arbiter_eq run hfree, chooseRun_urgent hready hurgent, arbitrateRun_engineStep (chooseRun_urgent hready hurgent)]
  · have hcalm : s.calm := calm_iff.2 hcalm
    refine ⟨fun j k n hj hstate => ?_, fun j image hs hj hstate => ⟨fun target ha hother hgeneration => ?_, fun hlimit => ?_⟩,
      fun j image p k hs hj hstate hp => ?_, fun hj hstore hq => ?_, fun hj hstore hq hfew => ?_⟩
    · have hchoice := (chooseRun_job hcalm hj).trans (jobStep_readSlot hstate)
      rw [arbiter_of_taking run hfree (by rw [hchoice]; rfl), hchoice]
      rfl
    · have hchoice := (chooseRun_job hcalm hj).trans (jobStep_first hstate hgeneration)
      rw [applyTarget_eq ha hother] at hchoice
      rw [arbiter_of_taking run hfree (by rw [hchoice]; rfl), hchoice]
      rfl
    · have hmem := arrayJob?_mem hj
      rw [arbiter_eq run hfree, chooseRun_job hcalm hj, jobStep_limit hstate hlimit, endJob_eq hs (job?_of_mem hs hmem),
        ← endJob_jobs_length hs hmem, hstate]
      rw [startTransmitter_arbiter (by exact run)]
      rfl
    · have hchoice := (chooseRun_job hcalm hj).trans (jobStep_program hs (arrayJob?_mem hj) hstate hp)
      rw [arbiter_of_taking run hfree (by rw [hchoice]; rfl), hchoice]
      rfl
    · have hchoice := (chooseRun_head hcalm hj hstore).trans (takeHead_empty hq)
      rw [arbiter_eq run hfree, hchoice, arbitrateRun_compactIfReady hchoice]
      rfl
    · have hchoice := (chooseRun_head hcalm hj hstore).trans (takeHead_waits hq hfew)
      have hwaits : s.headWaits.chooseRun = s.headWaits.compactIfReady :=
        chooseRun_headWaits ((Bool.eq_false_or_eq_true s.engineReady).symm) hj hstore hq hfew
      rw [arbiter_eq run hfree, hchoice, arbitrateRun_compactIfReady hwaits]
      rfl
  · have hchoice := chooseRun_exhausted hj hstore
    rw [arbiter_eq run hfree, hchoice, arbitrateRun_of_fixed hchoice]

/-! ## The commit-queue head -/

/-- The hold of a commit job as it begins (R47, R73). -/
def commitHold (d : State) (e : QueueEntry) : Hold :=
  { job := .commit { channel := e.channel, snapshot := d.snapshot e.channel, cause := e.cause, waiters := e.waiters }
    attempts := 0, place := none, sequence := 0, fault := none }

namespace State

variable {s : State} {e : QueueEntry}

/-- A dirty channel's commit begins in the OPEN sector's next slot (R25, R47, R67). -/
theorem startCommit_dirty {r : RingSector} {ep n : Nat} (hdirty : (s.drainCounts e.channel).dirty e.channel = true)
    (hfree : (commitHold (s.drainCounts e.channel) e).job.minimum ≤ s.freeSlots) (hopen : s.openSector? = some r)
    (hstate : (s.store.table.get r).state = .opened ep n) (hn : n < 32) : s.startCommit e =
      ((s.drainCounts e.channel).setHolder (some (commitHold (s.drainCounts e.channel) e))).beginRecord
        (commitHold (s.drainCounts e.channel) e) r ep n := by
  have htable : (s.drainCounts e.channel).store.table = s.store.table := by rw [(drainCounts_changes ..).store_eq]
  unfold startCommit
  dsimp only
  rw [if_pos hdirty]
  generalize s.drainCounts e.channel = d at *
  have hfree' : (d.setHolder (some (commitHold d e))).freeSlots = s.freeSlots := by
    rw [freeSlots, freeSlots, ← htable]; rfl
  have hopen' : (d.setHolder (some (commitHold d e))).openSector? = some r := by
    rw [← hopen, openSector?, openSector?, ← htable]; rfl
  have hstate' : ((d.setHolder (some (commitHold d e))).store.table.get r).state = .opened ep n := by
    rw [← hstate, ← htable]; rfl
  have henough : ¬ (d.setHolder (some (commitHold d e))).freeSlots < (commitHold d e).job.minimum := by
    rw [hfree']
    exact Nat.not_lt.2 hfree
  exact (if_neg henough).trans (takeSlot_open hopen' hstate' hn)

/-- A clean channel's entry is skipped (R25, R53). -/
theorem startCommit_clean (hclean : (s.drainCounts e.channel).dirty e.channel = false) (hwaiters : e.waiters = []) :
    s.startCommit e = s.drainCounts e.channel := by
  unfold startCommit
  dsimp only
  rw [if_neg (by rw [hclean]; decide), hwaiters]
  rfl

end State

theorem commitHold_minimum (d : State) (e : QueueEntry) : (commitHold d e).job.minimum ≤ 17 := by
  have h : (commitHold d e).job.minimum = if e.cause = .flush then 1 else 17 := rfl
  rw [h]
  split <;> decide

theorem engineReady_congr {s t : State} (hpower : t.power = s.power) (hstore : t.store = s.store) (hengine : t.engine = s.engine) :
    t.engineReady = s.engineReady := by
  unfold engineReady isRun trigger erasedSectors
  rw [hpower, hstore, hengine]

/-- Settles O23: the head's channel is drained, and the commit begins or the entry is skipped. -/
theorem commitHeadStartsWithASnapshot : Obligations.CommitHeadStartsWithASnapshot := by
  unfold Obligations.CommitHeadStartsWithASnapshot
  intro s e q run hop hholder hstore hj hcalm hq hfree
  dsimp only
  have hchoice := (chooseRun_head (calm_iff.2 hcalm) hj hstore).trans (takeHead_takes hq hfree)
  have harray : s.arrayFree = true := arrayFree_iff.2 ⟨hop, hholder⟩
  have hv : s.setSched { s.sched with queue := q, headWaiting := false } =
      { s with sched := { s.sched with queue := q, headWaiting := false } } := rfl
  rw [hv] at hchoice
  have hd := drainCounts_changes { s with sched := { s.sched with queue := q, headWaiting := false } } e.channel
  have hkept : (({ s with sched := { s.sched with queue := q, headWaiting := false } } : State).drainCounts e.channel).accum.tariff =
      s.accum.tariff := by rw [drainCounts_accum]
  have hlost : ((({ s with sched := { s.sched with queue := q, headWaiting := false } } : State).drainCounts
      e.channel).capture.channels.get e.channel).lost = (s.capture.channels.get e.channel).lost := by
    rw [drainCounts_capture, PerChannel.get_set_self]
  refine ⟨fun hdirty r ep n hopen hstate hn => ?_, fun hclean hlast hwaiters => ?_⟩
  · have hstart := (startCommit_dirty (s := { s with sched := { s.sched with queue := q, headWaiting := false } })
      hdirty ((commitHold_minimum _ e).trans hfree) hopen hstate hn).trans (beginRecord_eq rfl r ep n)
    rw [arbiter_of_taking run harray (by rw [hchoice, hstart]; rfl), hchoice, hstart]
    have hkeeps : (({ s with sched := { s.sched with queue := q, headWaiting := false } } : State).drainCounts
        e.channel).store = s.store := hd.store_eq
    generalize State.drainCounts { s with sched := { s.sched with queue := q, headWaiting := false } } e.channel = d at *
    rw [← hkept, ← hlost, ← hkeeps]
    rfl
  · have hstart := startCommit_clean (s := { s with sched := { s.sched with queue := q, headWaiting := false } }) hclean hwaiters
    rw [arbiter_eq run harray, hchoice, hstart, hq, hlast]
    subst hlast
    generalize State.drainCounts { s with sched := { s.sched with queue := [], headWaiting := false } } e.channel = d at *
    have hready : d.engineReady = s.engineReady := engineReady_congr hd.power_eq hd.store_eq hd.engine_eq
    have hcalm' : d.calm := by
      refine calm_iff.2 (hcalm.imp (fun h => hready.trans h) fun h => ⟨?_, ?_⟩)
      · rw [erasedSectors, hd.store_eq]
        exact h.1
      · rw [hd.sched_eq]
    have hidle : d.chooseRun = d.compactIfReady :=
      (chooseRun_head hcalm' (by rw [arrayJob?, hd.link_eq]; exact hj) (by rw [hd.store_eq]; exact hstore)).trans
        (takeHead_empty (by rw [hd.sched_eq]))
    have hfree' : d.arrayFree = true := arrayFree_iff.2 ⟨by rw [hd.store_eq]; exact hop, by rw [hd.store_eq]; exact hholder⟩
    rw [List.length_singleton, Nat.add_comm]
    refine (if_pos hfree').trans ?_
    rw [hidle, arbitrateRun_compactIfReady hidle, ← hready]
    rfl

end Sys2Proof.Machine
end

section

-- One theorem at a time, as in the tests: many proofs elaborated at once each hold a thread's stack.
set_option Elab.async false

/-! The flush list and FLUSH end (O38). -/

namespace Sys2Proof.Machine

open State

namespace State

variable {s : State}

/-! ## The not-written mask outside FLUSH -/

theorem commitFails_power {j : CommitJob} (hj : j.cause ≠ .flush) (f : Option RingSector) : (s.commitFails j f).power = s.power := by
  unfold commitFails
  dsimp only
  rw [if_neg hj, (tellAll_changes ..).power_eq]
  cases f with
  | some r => rw [(storeFault_changes ..).power_eq]; rfl
  | none => rw [setFree_power, (raise_changes ..).power_eq]; rfl

theorem jobFails_power {h : Hold} (hj : h.job.isFlush = false) : (s.jobFails h).power = s.power := by
  unfold jobFails
  split
  · next j hjob =>
    rw [hjob] at hj
    exact commitFails_power (by simpa [WriteJob.isFlush] using hj) _
  · exact (copyFails_changes ..).power_eq
  · exact (copyFails_changes ..).power_eq

theorem openHead_power {h : Hold} (hj : h.job.isFlush = false) : (s.openHead h).power = s.power := by
  rw [openHead_eq]
  split
  · rw [jobFails_power hj, (fillFullHead_changes s).power_eq]
  · rw [(beginOp_changes ..).power_eq, setStore_power, (fillFullHead_changes s).power_eq]

theorem nextAttempt_power {h : Hold} (hj : h.job.isFlush = false) : (s.nextAttempt h).power = s.power := by
  unfold nextAttempt takeSlot
  split
  · exact jobFails_power hj
  · split
    · exact openHead_power hj
    · split
      · split
        · exact (beginRecord_changes ..).power_eq
        · exact openHead_power hj
      · exact openHead_power hj

theorem startCommit_power {e : QueueEntry} (he : e.cause ≠ .flush) : (s.startCommit e).power = s.power := by
  have hcounted := (drainCounts_changes s e.channel).power_eq
  unfold startCommit
  dsimp only
  split
  · rw [nextAttempt_power (by simpa [WriteJob.isFlush] using he), (setHolder_changes ..).power_eq, hcounted]
  · rw [(tellAll_changes ..).power_eq, hcounted]

theorem chooseRun_power (hs : QueueLaw s) : s.chooseRun.power = s.power := by
  unfold chooseRun
  split
  · exact (engineStep_changes s).power_eq
  · split
    · exact (jobStep_changes ..).power_eq
    · split
      · rfl
      · unfold takeHead
        split
        · exact (compactIfReady_changes s).power_eq
        · next e q hq =>
          split
          · rw [startCommit_power (hs.causes e (hq ▸ List.mem_cons_self)).1]
            rfl
          · rw [(compactIfReady_changes _).power_eq]
            rfl

/-- In RUN the arbiter leaves the power monitor: no commit of the queue is one of the flush list (R124). -/
theorem arbitrateRun_power : ∀ (n : Nat) {s : State}, QueueLaw s → (arbitrateRun n s).power = s.power
  | 0, _, _ => rfl
  | n + 1, s, hs => by
    unfold arbitrateRun
    split
    · rw [arbitrateRun_power n ((chooseRun_moves (L := anything) s).keeps Move.keeps_queueLaw hs), chooseRun_power hs]
    · rfl

/-- With neither an entry nor a job the arbiter in RUN begins a compaction step at most. -/
theorem arbiterRun_of_empty (hq : s.sched.queue = []) (hj : s.link.jobs = []) : Changes [.engine, .store] s s.arbiterRun := by
  have hchoice : Changes [.engine, .store] s s.chooseRun := by
    unfold chooseRun
    split
    · exact engineStep_changes s
    · rw [show s.arrayJob? = none by rw [arrayJob?, hj]; rfl]
      dsimp only
      split
      · exact .refl ..
      · rw [takeHead_empty hq]
        exact compactIfReady_changes s
  rw [arbiterRun, choices, hq, hj]
  show Changes _ s (if s.arrayFree then s.chooseRun else s)
  split
  · exact hchoice
  · exact .refl ..

/-! ## The return to RUN -/

theorem followLines_channel (s : State) (c : Channel) : ∃ p, s.followLines.capture.channels.get c =
    { s.capture.channels.get c with pending := p } := by
  have hkept : ∃ p, s.capture.channels.get c = { s.capture.channels.get c with pending := p } := ⟨_, rfl⟩
  unfold followLines
  split
  · by_cases h : s.accum.tsel.filtered = s.accum.tariff
    · rw [s.tariffSwitch_active h]
      exact hkept
    · rw [(tariffSwitch_switched h).capture_eq, switched_capture, (s.drainAll_drained.of_all c).1]
      exact ⟨0, rfl⟩
  · exact hkept

/-- Capture LIVE with every filter re-initialised, the device state RUN (R14, R126). -/
def inRun (s : State) : State := (s.setPower { s.power with device := .run, resume := none }).captureLive

theorem returnToRun_eq (s : State) : s.returnToRun = s.inRun.followLines.startTransmitter.arbiterRun := rfl

theorem queueLaw_of_empty (h : s.sched.queue = []) : QueueLaw s := ⟨by simp [h], by simp [h], by simp [h]⟩

theorem returnToRun_power (hq : s.sched.queue = []) :
    s.returnToRun.power = { s.power with device := .run, resume := none } := by
  have hlaw : QueueLaw s.inRun := queueLaw_of_empty hq
  have hfollowed : QueueLaw s.inRun.followLines := (followLines_moves (L := anything) s.inRun (.inl rfl)).keeps Move.keeps_queueLaw hlaw
  have hstart := startTransmitter_changes s.inRun.followLines
  have hready : QueueLaw s.inRun.followLines.startTransmitter :=
    (startTransmitter_moves (L := anything) _).keeps Move.keeps_queueLaw hfollowed
  rw [returnToRun_eq, arbiterRun, arbitrateRun_power _ hready, hstart.power_eq, (followLines_changes _).power_eq]
  rfl

theorem returnToRun_capture (s : State) : s.returnToRun.capture.state = .live ∧
    ∀ c, (s.returnToRun.capture.channels.get c).filtered = (s.capture.channels.get c).sync ∧
      (s.returnToRun.capture.channels.get c).run = 0 := by
  have hstart := startTransmitter_changes s.inRun.followLines
  have hchoice := arbiterRun_drained s.inRun.followLines.startTransmitter
  rw [returnToRun_eq]
  refine ⟨?_, fun c => ?_⟩
  · rw [hchoice.state, hstart.capture_eq, followLines_captureState]
    rfl
  · obtain ⟨p, hp⟩ := s.inRun.followLines_channel c
    have hinit : s.inRun.capture.channels.get c = CaptureChannel.reinitialised (s.capture.channels.get c) :=
      PerChannel.get_ofFn ..
    obtain ⟨hk, -⟩ | ⟨hk, -⟩ := hchoice.channel c <;>
    · rw [hk, hstart.capture_eq, hp, hinit]
      exact ⟨rfl, rfl⟩

theorem returnToRun_tariff (h : s.config.live.globals.tariffSource = .lines) : s.returnToRun.accum.tariff = s.accum.tsel.filtered := by
  rw [returnToRun_eq, (arbiterRun_drained _).tariff, (startTransmitter_changes _).accum_eq, followLines_tariff (s := s.inRun) h]
  rfl

theorem returnToRun_notices (hq : s.sched.queue = []) (hj : s.link.jobs = [])
    (h : s.config.live.globals.tariffSource = .host ∨ s.accum.tsel.filtered = s.accum.tariff) :
    s.returnToRun.notices = s.notices := by
  rw [returnToRun_eq, followLines_of_host (s := s.inRun) h]
  have hstart := startTransmitter_changes s.inRun
  rw [(arbiterRun_of_empty (by rw [hstart.sched_eq]; exact hq) (by rw [(startTransmitter_queues _).2.2.1]; exact hj)).notices_eq,
    hstart.notices_eq]
  rfl

/-! ## The flush list -/

theorem zero_or_mask (m : ChannelMask) : 0 ||| m = m := BitVec.zero_or

theorem maskOf_cons (c : Channel) (cs : List Channel) : maskOf (c :: cs) = channelBit c ||| maskOf cs := by
  have hjoin : ∀ (cs : List Channel) (m : ChannelMask),
      cs.foldl (fun m c => m ||| channelBit c) m = m ||| cs.foldl (fun m c => m ||| channelBit c) 0 := by
    intro cs
    induction cs with
    | nil => exact fun m => (BitVec.or_zero ..).symm
    | cons d cs ih =>
      intro m
      rw [List.foldl_cons, List.foldl_cons, ih, ih (0 ||| channelBit d), zero_or_mask, BitVec.or_assoc]
  rw [maskOf, maskOf, List.foldl_cons, hjoin, zero_or_mask]

/-- While the store is EXHAUSTED every channel still listed joins the not-written mask and FLUSH ends (R124). -/
theorem offerFlush_exhausted : ∀ (cs : List Channel) {s : State}, s.store.exhausted = true → s.sched.flushList = cs →
    offerFlush cs s = ((s.setFlushList []).notWrite (maskOf cs)).flushEnd
  | [], s, _, hlist => by
    have hsame : (s.setFlushList []).notWrite (maskOf []) = s := by
      unfold notWrite setFlushList
      rw [← hlist, show maskOf s.sched.flushList = 0#8 by rw [hlist]; rfl, setSched_power, BitVec.or_zero]
      rfl
    rw [hsame]
    rfl
  | c :: rest, s, hstore, hlist => by
    have hrest := offerFlush_exhausted rest (s := (s.setFlushList rest).notWrite (channelBit c)) hstore rfl
    refine (if_pos hstore).trans (hrest.trans (congrArg flushEnd ?_))
    unfold notWrite setFlushList
    rw [maskOf_cons, ← BitVec.or_assoc]
    rfl

theorem offerFlush_noSpace {c : Channel} {rest : List Channel} (hstore : s.store.exhausted = false) (hfull : s.freeSlots = 0) :
    offerFlush (c :: rest) s = ((s.setFlushList []).notWrite (maskOf (c :: rest))).flushEnd := by
  refine (if_neg (by rw [hstore]; decide)).trans (if_pos ?_)
  rw [hfull]
  decide

theorem offerFlush_starts {c : Channel} {rest : List Channel} (hstore : s.store.exhausted = false) (hfree : 1 ≤ s.freeSlots)
    (htaken : ((s.setFlushList rest).startCommit { channel := c, cause := .flush, waiters := [] }).arrayFree = false) :
    offerFlush (c :: rest) s = (s.setFlushList rest).startCommit { channel := c, cause := .flush, waiters := [] } := by
  refine (if_neg (by rw [hstore]; decide)).trans ((if_neg (Nat.not_lt.2 hfree)).trans (if_neg ?_))
  rw [htaken]
  decide

theorem arbiter_of_flush (hdevice : s.power.device = .flush) (hwait : s.power.replyWait = false) (hfree : s.arrayFree = true) :
    s.arbiter = offerFlush s.sched.flushList s := by
  simp [arbiter, hdevice, hwait, hfree]

/-- The end of a cancelled READ_SLOT's read in FLUSH offers the flush list (R58, R60, R124). -/
theorem exec_slotReadEnd_flush {op : Operation} (hdevice : s.power.device = .flush) (hwait : s.power.replyWait = false)
    (hop : s.store.op = some op) (htask : op.task = .slotRead) (hholder : s.store.holder = none) (hj : s.link.jobs = []) :
    exec .slotReadEnd s = .next (offerFlush s.sched.flushList (s.setOp none)) := by
  have hread : (s.setOp none).slotReadEnd (s.slotBytes op.sector op.slot) = s.setOp none := by
    have hnone : (s.setOp none).arrayJob? = none := by
      show s.link.jobs.find? isArrayJob = none
      rw [hj]
      rfl
    simp only [slotReadEnd, hnone]
  have hend : exec .slotReadEnd s =
      .next (s.atEnd .slotRead fun op => ((s.setOp none).slotReadEnd (s.slotBytes op.sector op.slot)).arbiter) := rfl
  rw [hend, atEnd, hop]
  dsimp only
  rw [if_pos htask, hread]
  exact congrArg Host.Outcome.next (arbiter_of_flush (s := s.setOp none) hdevice hwait (arrayFree_iff.2 ⟨rfl, hholder⟩))

end State

theorem Account.drained_zero_buckets (a : Account) (t : Tariff) (w : Nat) : (Account.drained a t 0 w).buckets = a.buckets := by
  simp [Account.drained]

/-- A drain of a count of 0 makes no channel dirty (R19, R22). -/
theorem drainCounts_dirty {s : State} {c : Channel} (hpending : (s.capture.channels.get c).pending = 0) :
    (s.drainCounts c).dirty c = s.dirty c := by
  rw [dirty, dirty, drainCounts_account, (drainCounts_changes ..).store_eq, drainedAccount, hpending]
  rfl

/-- FLUSH end but for its choice of the next state (R125). -/
theorem flushEnd_eq (s : State) : s.flushEnd =
    (let u := (s.raise .power (.power (flushDetail s.power.notWritten))).setPower { s.power with notWritten := 0 }
     if s.power.pfailFiltered then u.setPower { u.power with device := .retain }
     else if s.power.restartOwed then (u.setPower { u.power with replyWait := true }).endReplyWait
     else u.returnToRun) := rfl

/-- Settles O38: the flush list's first channel is committed or not written, and FLUSH end chooses the next state. -/
theorem flushListIsWrittenAndFlushEnds : Obligations.FlushListIsWrittenAndFlushEnds := by
  unfold Obligations.FlushListIsWrittenAndFlushEnds
  refine ⟨fun s op c rest hdevice hwait hop htask hholder hj hlist => ?_, fun s op hdevice hwait hop htask hholder hj hlist => ?_⟩
  · rw [exec_slotReadEnd_flush hdevice hwait hop htask hholder hj, hlist]
    refine ⟨fun hstore hfree hdirty hpending r ep n hopen hstate hn => ?_, fun hfull hpfail => ?_⟩
    · have hkept : ((s.setOp none).setFlushList rest).store = { s.store with op := none } := rfl
      have hdirty' : (((s.setOp none).setFlushList rest).drainCounts c).dirty c = true :=
        (drainCounts_dirty (s := (s.setOp none).setFlushList rest) hpending).trans hdirty
      have hstart := (startCommit_dirty (s := (s.setOp none).setFlushList rest)
        (e := { channel := c, cause := .flush, waiters := [] }) hdirty' hfree hopen hstate hn).trans (beginRecord_eq rfl r ep n)
      have htaken : (((s.setOp none).setFlushList rest).startCommit
          { channel := c, cause := .flush, waiters := [] }).arrayFree = false := by
        rw [hstart]
        rfl
      have hd := drainCounts_changes ((s.setOp none).setFlushList rest) c
      have haccount : (((s.setOp none).setFlushList rest).drainCounts c).accum.accounts.get c =
          Account.drained (s.accum.accounts.get c) s.accum.tariff 0 (s.liveChannel c).weight := by
        rw [drainCounts_account, ← hpending]
        rfl
      have htariff : (((s.setOp none).setFlushList rest).drainCounts c).accum.tariff = s.accum.tariff := by
        rw [drainCounts_accum]
        rfl
      have hlost : ((((s.setOp none).setFlushList rest).drainCounts c).capture.channels.get c).lost =
          (s.capture.channels.get c).lost := by
        rw [drainCounts_capture, PerChannel.get_set_self]
        rfl
      refine ⟨_, congrArg Host.Outcome.next ((offerFlush_starts (s := s.setOp none) hstore hfree htaken).trans hstart), ?_⟩
      dsimp only
      generalize ((s.setOp none).setFlushList rest).drainCounts c = d at *
      have hnext : d.store.nextSequence = s.store.nextSequence := by
        rw [hd.store_eq]
        rfl
      have hbuckets : (d.accum.accounts.get c).buckets = (s.accum.accounts.get c).buckets := by
        rw [haccount, Account.drained_zero_buckets]
      refine ⟨?_, ?_, ?_, ⟨_, rfl, rfl, rfl, rfl, hnext⟩, congrArg (· + 1) hnext, congrArg Power.notWritten hd.power_eq⟩
      · exact (congrArg Power.device hd.power_eq).trans hdevice
      · exact congrArg Scheduler.flushList hd.sched_eq
      · rw [← htariff, ← hlost, ← hbuckets, ← hnext]
        rfl
    · have hend : offerFlush (c :: rest) (s.setOp none) =
          (((s.setOp none).setFlushList []).notWrite (maskOf (c :: rest))).flushEnd := by
        cases hstore : s.store.exhausted with
        | true => exact offerFlush_exhausted _ hstore hlist
        | false => exact offerFlush_noSpace hstore (hfull.resolve_left (by rw [hstore]; decide))
      refine ⟨_, congrArg Host.Outcome.next hend, ?_⟩
      rw [flushEnd, if_pos (by exact hpfail)]
      exact ⟨rfl, rfl, rfl, rfl, rfl, rfl⟩
  · rw [exec_slotReadEnd_flush hdevice hwait hop htask hholder hj, hlist]
    have hflush := flushEnd_eq (s.setOp none)
    dsimp only at hflush ⊢
    refine ⟨fun hpfail => ?_, fun hpfail howed hmore => ?_, fun hpfail howed hreplies hidle => ?_, fun hpfail howed hs => ?_⟩
    · refine congrArg Host.Outcome.next (hflush.trans ((if_pos ?_).trans ?_))
      · exact hpfail
      · rfl
    · refine congrArg Host.Outcome.next (hflush.trans ((if_neg ?_).trans ((if_pos ?_).trans ((if_neg ?_).trans ?_))))
      · exact ne_true_of_eq_false hpfail
      · exact howed
      · intro hends
        simp only [Bool.and_eq_true, List.isEmpty_iff, Bool.not_eq_true'] at hends
        obtain ⟨⟨-, hreplies⟩, hidle⟩ := hends
        exact hmore.elim (fun h => h hreplies) fun h => by cases h.symm.trans hidle
      · rfl
    · refine ⟨_, congrArg Host.Outcome.next (hflush.trans ((if_neg ?_).trans ((if_pos ?_).trans
        (endReplyWait_of_last ?_ ?_ ?_)))), ?_⟩
      · exact ne_true_of_eq_false hpfail
      · exact howed
      · rfl
      · exact hreplies
      · exact hidle
      · obtain ⟨hentered, hread, htime, -⟩ := owedRestart_ends (s := s) (u :=
          ((((s.setOp none).raise .power (.power (flushDetail s.power.notWritten))).setPower
            { s.power with notWritten := 0 }).setPower { s.power with notWritten := 0, replyWait := true })) rfl rfl rfl
        exact ⟨hentered, hread, htime⟩
    · refine ⟨_, congrArg Host.Outcome.next (hflush.trans ((if_neg ?_).trans (if_neg ?_))), ?_⟩
      · exact ne_true_of_eq_false hpfail
      · exact ne_true_of_eq_false howed
      · have hq : s.sched.queue = [] := hs.queue (by rw [hdevice]; decide)
        have hpower := returnToRun_power (s := ((s.setOp none).raise .power (.power (flushDetail s.power.notWritten))).setPower
          { s.power with notWritten := 0 }) hq
        obtain ⟨hlive, hchannels⟩ := returnToRun_capture (((s.setOp none).raise .power
          (.power (flushDetail s.power.notWritten))).setPower { s.power with notWritten := 0 })
        refine ⟨congrArg Power.device hpower, congrArg Power.notWritten hpower, hlive, fun hsource => ?_, fun hlines => ?_,
          hchannels⟩
        · exact returnToRun_notices (s := ((s.setOp none).raise .power (.power (flushDetail s.power.notWritten))).setPower
            { s.power with notWritten := 0 }) hq hj hsource
        · exact returnToRun_tariff (s := ((s.setOp none).raise .power (.power (flushDetail s.power.notWritten))).setPower
            { s.power with notWritten := 0 }) hlines

end Sys2Proof.Machine
end

section

-- One theorem at a time, as in the tests: many proofs elaborated at once each hold a thread's stack.
set_option Elab.async false

/-! The ends of a job's operations (O42 to O45). -/

namespace Sys2Proof.Machine

open State

namespace State

variable {s : State} {op : Operation} {h : Hold} {l : Location}

/-! ## Ends -/

theorem atEnd_of_op {x : Task} (hop : s.store.op = some op) (hx : op.task = x) (f : Operation → State) : s.atEnd x f = f op := by
  rw [atEnd, hop]
  exact if_pos hx

theorem endProgram_pass : s.endProgram op .pass =
    { s with array := Memory.program s.array op.address op.bytes, store := { s.store with op := none } } := rfl

theorem endProgram_fail : s.endProgram op .fail =
    { s with
      array := Memory.programFailed s.array op.address op.bytes.length s.free
      free := s.free + op.bytes.length
      store := { s.store with op := none } } := rfl

theorem endProgram_store (o : ProgramOutcome) : (s.endProgram op o).store = { s.store with op := none } := by
  cases o <;> rfl

theorem endProgram_kept (o : ProgramOutcome) : Changes [.array, .store, .free] s (s.endProgram op o) := endProgram_changes ..

theorem exec_recordProgramEnd (hop : s.store.op = some op) (hx : op.task = .recordProgram) (o : ProgramOutcome) :
    exec (.recordProgramEnd o) s = .next ((s.endProgram op o).recordEnd o).arbiter :=
  congrArg Host.Outcome.next (atEnd_of_op hop hx _)

theorem exec_confirmProgramEnd (hop : s.store.op = some op) (hx : op.task = .confirmProgram) (o : ProgramOutcome) :
    exec (.confirmProgramEnd o) s = .next ((s.endProgram op o).confirmEnd o).arbiter :=
  congrArg Host.Outcome.next (atEnd_of_op hop hx _)

theorem exec_epochProgramEnd (hop : s.store.op = some op) (hx : op.task = .epochProgram) (o : ProgramOutcome) :
    exec (.epochProgramEnd o) s = .next ((s.endProgram op o).epochEnd op.sector o).arbiter :=
  congrArg Host.Outcome.next (atEnd_of_op hop hx _)

theorem exec_copyReadEnd (hop : s.store.op = some op) (hx : op.task = .copyRead) :
    exec .copyReadEnd s = .next ((s.setOp none).copyReadEnd (s.slotBytes op.sector op.slot)).arbiter :=
  congrArg Host.Outcome.next (atEnd_of_op hop hx _)

/-! ## Attempts -/

theorem holderCut_iff : s.holderCut h = true ↔ s.power.device = .flush ∧ h.job.isFlush = false := by
  simp [holderCut]

theorem endProgram_holderCut (o : ProgramOutcome) : (s.endProgram op o).holderCut h = s.holderCut h := by
  rw [holderCut, holderCut, (endProgram_kept o).power_eq]

theorem recordEnd_eq (hh : s.store.holder = some h) (hl : h.place = some l) (o : ProgramOutcome) : s.recordEnd o =
    if s.holderCut h then s.setHolder none
    else
      match o with
      | .pass => s.beginOp .confirmProgram (.ring l.sector) l.slot confirmOffset [0]
      | .fail => s.attemptFailed h l.sector := by
  simp only [recordEnd, hh, hl] <;> rfl

theorem confirmEnd_fail (hh : s.store.holder = some h) (hl : h.place = some l) : s.confirmEnd .fail =
    if s.holderCut h then s.setHolder none else s.attemptFailed h l.sector := by
  simp only [confirmEnd, hh, hl]

theorem confirmEnd_pass (hh : s.store.holder = some h) (hl : h.place = some l) : s.confirmEnd .pass = s.jobSucceeds h l := by
  simp only [confirmEnd, hh, hl]

/-- The third failed attempt is the last (R74). -/
theorem attemptFailed_eq (r : RingSector) : s.attemptFailed h r =
    if h.attempts < 2 then
      (s.setHolder (some { h with attempts := h.attempts + 1, fault := some r })).nextAttempt
        { h with attempts := h.attempts + 1, fault := some r }
    else
      (s.setHolder (some { h with attempts := h.attempts + 1, fault := some r })).jobFails
        { h with attempts := h.attempts + 1, fault := some r } := by
  unfold attemptFailed
  dsimp only
  by_cases hmore : h.attempts < 2
  · rw [if_pos hmore, if_neg (by exact Nat.not_le.2 (Nat.succ_lt_succ hmore))]
  · rw [if_neg hmore, if_pos (by exact Nat.succ_le_succ (Nat.not_lt.1 hmore))]

end State

/-- Settles O42: PASS leads to the confirm mark, FAIL to another attempt or the job's failure, and a cut job goes no further. -/
theorem recordProgramEndLeadsToTheConfirmMark : Obligations.RecordProgramEndLeadsToTheConfirmMark := by
  unfold Obligations.RecordProgramEndLeadsToTheConfirmMark
  intro s op h l hop hh hl
  dsimp only
  have hh' : ∀ o, (s.endProgram op o).store.holder = some h := fun o => by rw [endProgram_store]; exact hh
  have hcut : ∀ o, (s.power.device = .flush ∧ h.job.isFlush = false) → (s.endProgram op o).holderCut h = true := fun o hc => by
    rw [endProgram_holderCut, holderCut_iff]
    exact hc
  have hgoes : ∀ o, ¬ (s.power.device = .flush ∧ h.job.isFlush = false) → ¬ (s.endProgram op o).holderCut h = true := fun o hc => by
    rw [endProgram_holderCut, holderCut_iff]
    exact hc
  have hended : ∀ o, (s.endProgram op o).setHolder none =
      { s.endProgram op o with store := { s.store with op := none, holder := none } } := by
    intro o
    rw [setHolder, endProgram_store]
    rfl
  refine ⟨fun hx => ⟨fun hc => ⟨?_, ?_⟩, fun hc o => ?_⟩, fun hx => ⟨fun hc => ?_, fun hc => ?_⟩⟩
  · rw [exec_recordProgramEnd hop hx, recordEnd_eq (hh' _) hl, if_neg (hgoes _ hc)]
    exact congrArg Host.Outcome.next (arbiter_of_taken rfl)
  · rw [exec_recordProgramEnd hop hx, recordEnd_eq (hh' _) hl, if_neg (hgoes _ hc), endProgram_fail]
    dsimp only
    rw [attemptFailed_eq]
    rfl
  · rw [exec_recordProgramEnd hop hx, recordEnd_eq (hh' _) hl, if_pos (hcut _ hc), hended]
  · rw [exec_confirmProgramEnd hop hx, confirmEnd_fail (hh' _) hl, if_neg (hgoes _ hc), endProgram_fail, attemptFailed_eq]
    rfl
  · rw [exec_confirmProgramEnd hop hx, confirmEnd_fail (hh' _) hl, if_pos (hcut _ hc), hended]

/-! ## Success -/

namespace State

variable {s : State} {op : Operation} {h : Hold} {l : Location}

/-- The map-records counts follow a record's move (R64). -/
theorem moveMapRecord_table (old : Option RingSector) (new q : RingSector) : (s.moveMapRecord old new).store.table.get q =
    { s.store.table.get q with
      mapRecords :=
        if old = some new then (s.store.table.get q).mapRecords
        else if q = new then (s.store.table.get q).mapRecords + 1
        else if old = some q then (s.store.table.get q).mapRecords - 1
        else (s.store.table.get q).mapRecords } := by
  unfold moveMapRecord
  by_cases hsame : old = some new
  · rw [if_pos hsame, if_pos hsame]
  rw [if_neg hsame, if_neg hsame]
  cases old with
  | none =>
    simp only [setEntry, entry, setStore_store, PerRing.get_set]
    by_cases hq : q = new
    · simp only [hq, if_true]
    · simp only [hq, if_false, reduceCtorEq]
  | some r =>
    have hne : new ≠ r := fun hr => hsame (hr ▸ rfl)
    simp only [setEntry, entry, setStore_store, PerRing.get_set, if_neg hne, Option.some.injEq, eq_comm (a := r)]
    by_cases hq : q = new
    · simp only [hq, if_true]
    · by_cases hqr : q = r
      · simp only [hqr, hne.symm, if_true, if_false]
      · simp only [hq, hqr, if_false]

theorem designate_table (c : Channel) (d : Designation) (q : RingSector) : (s.designate c d).store.table.get q =
    { s.store.table.get q with
      mapRecords :=
        if (s.store.map.get c).designated.map (fun x => x.location.sector) = some d.location.sector then
          (s.store.table.get q).mapRecords
        else if q = d.location.sector then (s.store.table.get q).mapRecords + 1
        else if (s.store.map.get c).designated.map (fun x => x.location.sector) = some q then
          (s.store.table.get q).mapRecords - 1
        else (s.store.table.get q).mapRecords } := moveMapRecord_table ..

theorem designate_store_eq (c : Channel) (d : Designation) : (s.designate c d).store =
    { s.store with
      table := (s.designate c d).store.table
      map := s.store.map.set c { s.store.map.get c with designated := some d } } := by
  obtain ⟨table, hstore, -⟩ := s.designate_store c d
  rw [hstore]

/-- A commit's success up to its waiters (R49, R76). -/
def committed (s : State) (j : CommitJob) (d : Designation) : State :=
  let s := (s.setHolder none).designate j.channel d
  let s := s.setMapEntry j.channel
    { s.store.map.get j.channel with
      buckets := j.snapshot.buckets, lost := j.snapshot.lost, version := j.snapshot.version }
  s.setAccount j.channel { s.accum.accounts.get j.channel with
    delta := (s.accum.accounts.get j.channel).delta - j.snapshot.delta }

theorem commitSucceeds_eq (j : CommitJob) (d : Designation) :
    s.commitSucceeds j d = (s.committed j d).tellAll j.channel .succeeded j.waiters := rfl

theorem committed_changes (j : CommitJob) (d : Designation) : Changes [.store, .accum] s (s.committed j d) :=
  ((((setHolder_changes ..).mono (by decide)).trans ((designate_changes ..).mono (by decide))).trans
    ((setMapEntry_changes ..).mono (by decide))).trans ((setAccount_changes ..).mono (by decide))

theorem committed_store (j : CommitJob) (d : Designation) : (s.committed j d).store =
    { s.store with
      holder := none
      table := ((s.setHolder none).designate j.channel d).store.table
      map := s.store.map.set j.channel
        { designated := some d, buckets := j.snapshot.buckets, lost := j.snapshot.lost, version := j.snapshot.version } } := by
  have hstore := designate_store_eq (s := s.setHolder none) j.channel d
  unfold committed
  generalize (s.setHolder none).designate j.channel d = u at *
  dsimp only [setAccount, setMapEntry]
  rw [setAccum_store, setStore_store, hstore]
  simp only [PerChannel.set_set, PerChannel.get_set_self]
  rfl

theorem committed_accum (j : CommitJob) (d : Designation) : (s.committed j d).accum =
    { s.accum with
      accounts := s.accum.accounts.set j.channel
        { s.accum.accounts.get j.channel with delta := (s.accum.accounts.get j.channel).delta - j.snapshot.delta } } := by
  have haccum : ((s.setHolder none).designate j.channel d).accum = s.accum := by
    rw [(designate_changes ..).accum_eq, (setHolder_changes ..).accum_eq]
  unfold committed
  generalize (s.setHolder none).designate j.channel d = u at *
  dsimp only [setAccount, setMapEntry]
  rw [setAccum_accum, setStore_accum, haccum]

theorem advanced_copy (t : RingSector) (p : Nat) : Phase.advanced (.copy t p) = if p < 7 then .copy t (p + 1) else .mark t := by
  by_cases hp : p < 7
  · rw [if_pos hp]
    exact if_neg (Nat.not_le.2 (Nat.succ_lt_succ hp))
  · rw [if_neg hp]
    exact if_pos (Nat.succ_le_succ (Nat.not_lt.1 hp))

end State

/-- Settles O43: the confirmed record is designated; a commit's map entry takes the snapshot, a copy's the place. -/
theorem passedConfirmMarkDesignatesTheRecord : Obligations.PassedConfirmMarkDesignatesTheRecord := by
  unfold Obligations.PassedConfirmMarkDesignatesTheRecord
  intro s op h l hop hx hh hl
  have hexec : exec (.confirmProgramEnd .pass) s = .next ((s.endProgram op .pass).jobSucceeds h l).arbiter := by
    rw [exec_confirmProgramEnd hop hx, confirmEnd_pass (s := s.endProgram op .pass) hh hl]
  have hended := endProgram_changes s op .pass
  have hstore := endProgram_store (s := s) (op := op) .pass
  have harray : (s.endProgram op .pass).array = Memory.program s.array op.address op.bytes := rfl
  have hend : Changes [.array, .store] s (s.endProgram op .pass) := by
    have harrays : Changes [.array, .store] s (s.setArray (Memory.program s.array op.address op.bytes)) :=
      (setArray_changes ..).mono (by decide)
    exact (setOp_changes _ none).after (by decide) harrays
  dsimp only
  refine ⟨fun j hj => ?_, fun j target p hj hphase => ?_⟩
  · refine ⟨(s.endProgram op .pass).committed j { location := l, sequence := h.sequence }, ?_, ?_, fun q => ?_, ?_, ?_, ?_⟩
    · rw [hexec, jobSucceeds, hj]
      rfl
    all_goals generalize s.endProgram op .pass = u at *
    · rw [committed_store, hstore]
    · rw [committed_store, designate_table]
      show _ = _
      rw [show (u.setHolder none).store.map = s.store.map by rw [setHolder, setStore_store, hstore],
        show (u.setHolder none).store.table = s.store.table by rw [setHolder, setStore_store, hstore]]
    · rw [committed_accum, hended.accum_eq]
    · rw [(committed_changes j _).array_eq, harray]
    · exact (hend.mono (by decide)).trans ((committed_changes j _).mono (by decide))
  · refine ⟨(s.endProgram op .pass).copySucceeds j { location := l, sequence := h.sequence }, ?_, ?_, fun q => ?_, ?_, ?_, ?_⟩
    · rw [hexec, jobSucceeds, hj]
    all_goals
      unfold copySucceeds
      generalize s.endProgram op .pass = u at *
    · rw [setPhase, setEngine_store, designate_store_eq, setHolder, setStore_store, hstore]
    · rw [setPhase, setEngine_store, designate_table, setHolder, setStore_store, hstore]
    · rw [setPhase, setEngine_engine, (designate_changes ..).engine_eq, (setHolder_changes ..).engine_eq, hended.engine_eq, hphase,
        advanced_copy]
    · rw [setPhase, setEngine_array, (designate_changes ..).array_eq, (setHolder_changes ..).array_eq, harray]
    · exact (((hend.mono (by decide)).trans ((setHolder_changes ..).mono (by decide))).trans
        ((designate_changes ..).mono (by decide))).trans ((setPhase_changes ..).mono (by decide))

end Sys2Proof.Machine
end

section

-- One theorem at a time, as in the tests: many proofs elaborated at once each hold a thread's stack.
set_option Elab.async false

/-! The ends of epoch programs, copy reads and compaction operations (O44, O45, O46). -/

namespace Sys2Proof.Machine

open State

theorem PerRing.set_set {α : Type} (v : PerRing α) (r : RingSector) (a b : α) : (v.set r a).set r b = v.set r b := by
  cases r <;> rfl

namespace State

variable {s : State} {op : Operation} {h : Hold} {r : RingSector}

/-! ## Head opening's end -/

theorem epochEnd_pass (hh : s.store.holder = some h) : s.epochEnd (.ring r) .pass =
    if s.holderCut h then (s.setSectorState r (.opened s.store.highestEpoch 1)).setHolder none
    else (s.setSectorState r (.opened s.store.highestEpoch 1)).beginRecord h r s.store.highestEpoch 1 := by
  have hholder : (s.setSectorState r (.opened s.store.highestEpoch 1)).store.holder = some h := hh
  simp only [epochEnd, hholder] <;> rfl

theorem epochEnd_fail (hh : s.store.holder = some h) : s.epochEnd (.ring r) .fail =
    if s.holderCut h then (s.setSectorState r .spoiled).setHolder none
    else (s.setSectorState r .spoiled).openHead { h with fault := some r } := by
  have hholder : (s.setSectorState r .spoiled).store.holder = some h := hh
  simp only [epochEnd, hholder] <;> rfl

theorem openSector?_eq_none_iff : s.openSector? = none ↔ ∀ q e n, (s.store.table.get q).state ≠ .opened e n := by
  unfold openSector?
  rw [List.find?_eq_none]
  refine ⟨fun h q e n hq => h q q.mem_all ?_, fun h q _ => ?_⟩
  · rw [hq]
  · split
    · next e n hq => exact absurd hq (h q e n)
    · exact Bool.false_ne_true

/-- A sector that becomes SPOILED opens none. -/
theorem openSector?_spoiled (h : s.openSector? = none) : (s.setSectorState r .spoiled).openSector? = none := by
  rw [openSector?_eq_none_iff] at h ⊢
  intro q e n
  simp only [setSectorState, setEntry, setStore_store, PerRing.get_set]
  split
  · exact fun hq => by cases hq
  · exact h q e n

/-- Without an OPEN sector head opening goes to the candidate at once (R68). -/
theorem openHead_of_none (h' : Hold) (hopen : s.openSector? = none) : s.openHead h' =
    match s.headCandidate? with
    | none => s.jobFails h'
    | some k =>
      (s.setStore { s.store with highestEpoch := s.store.highestEpoch + 1, holder := some { h' with place := none } }).beginOp
        .epochProgram (.ring k) 0 epochOffset (epochBytes (s.store.highestEpoch + 1)) := by
  have hfill : s.fillFullHead = s := fillFullHead_eq (.inl ⟨hopen, rfl⟩)
  rw [openHead_eq, hfill] <;> rfl

end State

/-- Settles O44: PASS opens the head and takes its slot 1, FAIL spoils it and tries the next candidate. -/
theorem epochProgramEndOpensTheHead : Obligations.EpochProgramEndOpensTheHead := by
  unfold Obligations.EpochProgramEndOpensTheHead
  intro s op h r content hop hx hsector hh hcontent
  dsimp only
  have hpass := exec_epochProgramEnd hop hx .pass
  have hfail := exec_epochProgramEnd hop hx .fail
  rw [hsector, epochEnd_pass (s := s.endProgram op .pass) hh] at hpass
  rw [hsector, epochEnd_fail (s := s.endProgram op .fail) hh] at hfail
  rw [endProgram_holderCut] at hpass hfail
  refine ⟨fun hc => ?_, fun hc => ⟨?_, ?_⟩, fun hc hopen => ⟨fun k hk hleast => ?_, fun hnone => ?_⟩⟩
  · rw [hpass, if_neg (mt holderCut_iff.1 hc), beginRecord_eq hcontent, arbiter_of_taken rfl, endProgram_pass]
    dsimp only [setSectorState, setEntry, setStore, entry]
    rw [PerRing.set_set, PerRing.get_set_self]
  · rw [hpass, if_pos (holderCut_iff.2 hc)]
    rfl
  · rw [hfail, if_pos (holderCut_iff.2 hc)]
    rfl
  · rw [hfail, if_neg (mt holderCut_iff.1 hc), openHead_of_none _ (openSector?_spoiled (by exact hopen))]
    have hnext : ((s.endProgram op .fail).setSectorState r .spoiled).headCandidate? = some k :=
      headCandidate?_eq_some (s := (s.endProgram op .fail).setSectorState r .spoiled) hk hleast
    rw [hnext]
    dsimp only
    rw [arbiter_of_taken rfl, endProgram_fail]
    rfl
  · rw [hfail, if_neg (mt holderCut_iff.1 hc), openHead_of_none _ (openSector?_spoiled (by exact hopen))]
    have hnext : ((s.endProgram op .fail).setSectorState r .spoiled).headCandidate? = none :=
      headCandidate?_eq_none (s := (s.endProgram op .fail).setSectorState r .spoiled) hnone
    rw [hnext]
    rfl

/-! ## A copy's read -/

namespace State

variable {s : State} {h : Hold} {c : Channel} {t : RingSector}

/-- The hold of a copy whose record has been read (R88). -/
def copyHold (s : State) (c : Channel) (t : RingSector) (tariff : Tariff) : Hold :=
  { job := .copy
      { channel := c, target := t, tariff := tariff, buckets := (s.store.map.get c).buckets, lost := (s.store.map.get c).lost }
    attempts := 0, place := none, sequence := 0, fault := none }

theorem copyReadEnd_eq (hh : s.store.holder = some h) (hj : h.job = .reading c t) (bs : List Byte) : s.copyReadEnd bs =
    if s.power.device = .flush then s.setHolder none
    else
      match s.copyCheck? c t bs with
      | some x => (s.setHolder (some (s.copyHold c t x.content.tariff))).nextAttempt (s.copyHold c t x.content.tariff)
      | none =>
        ((s.storeFault (.ring t)).setHolder (some (s.copyHold c t s.accum.tariff))).nextAttempt
          (s.copyHold c t s.accum.tariff) := by
  obtain ⟨job, attempts, place, sequence, fault⟩ := h
  obtain rfl : job = .reading c t := hj
  simp only [copyReadEnd, hh]
  split
  · rfl
  · cases s.copyCheck? c t bs <;> rfl

theorem copyCheck?_eq_some {bs : List Byte} {x : ReadRecord} : s.copyCheck? c t bs = some x ↔
    ∃ d, parseRecord bs = some x ∧ (s.store.map.get c).designated = some d ∧
      (s.store.table.get t).state.isInUse = true ∧ x.content.channel = c ∧ x.sequence = d.sequence := by
  unfold copyCheck?
  split
  · next y d hy hd =>
    rw [hy, hd]
    constructor
    · intro hx
      split at hx
      · next hgood =>
        obtain rfl := Option.some.inj hx
        exact ⟨d, rfl, rfl, hgood⟩
      · cases hx
    · rintro ⟨d', hy', hd', hgood⟩
      obtain rfl := Option.some.inj hy'
      obtain rfl := Option.some.inj hd'
      exact if_pos hgood
  · next hno =>
    constructor
    · intro hx
      cases hx
    · rintro ⟨d, hy, hd, -⟩
      exact (hno x d hy hd).elim

end State

/-- Settles O45: the copied record is checked against the map, and its tariff or the active one taken. -/
theorem copyReadEndChecksAndWrites : Obligations.CopyReadEndChecksAndWrites := by
  unfold Obligations.CopyReadEndChecksAndWrites
  intro s op h c target hop hx hh hj
  dsimp only
  rw [exec_copyReadEnd hop hx, copyReadEnd_eq (s := s.setOp none) hh hj]
  refine ⟨fun hflush => ?_, fun hflush => ⟨fun x d hgood => ?_, fun hbad => ?_⟩⟩
  · rw [if_pos (by exact hflush)]
    rfl
  · have hcheck : (s.setOp none).copyCheck? c target (s.slotBytes op.sector op.slot) = some x :=
      copyCheck?_eq_some.2 ⟨d, hgood⟩
    rw [if_neg (by exact hflush), hcheck]
    rfl
  · have hcheck : (s.setOp none).copyCheck? c target (s.slotBytes op.sector op.slot) = none :=
      Option.eq_none_iff_forall_ne_some.2 fun x hx => by
        obtain ⟨d, hgood⟩ := copyCheck?_eq_some.1 hx
        exact hbad x d hgood
    rw [if_neg (by exact hflush), hcheck]
    rfl

/-! ## Compaction operations -/

namespace State

variable {s : State} {op : Operation} {r : RingSector}

theorem exec_retireProgramEnd (hop : s.store.op = some op) (hx : op.task = .retireProgram) (o : ProgramOutcome) :
    exec (.retireProgramEnd o) s = .next ((s.endProgram op o).retireEnd op.sector).arbiter :=
  congrArg Host.Outcome.next (atEnd_of_op hop hx _)

theorem exec_countProgramEnd (hop : s.store.op = some op) (hx : op.task = .countProgram) (o : ProgramOutcome) :
    exec (.countProgramEnd o) s = .next ((s.endProgram op o).countEnd o).arbiter :=
  congrArg Host.Outcome.next (atEnd_of_op hop hx _)

theorem atEraseEnd_of_op {x : Task} {o : EraseOutcome} (hop : s.store.op = some op) (hx : op.task = x)
    (ho : o = .aborted ↔ op.aborting = true) (f : Operation → State) : s.atEraseEnd x o f = f op := by
  refine (atEnd_of_op hop hx _).trans (if_pos ?_)
  rw [Bool.eq_iff_iff, beq_iff_eq]
  exact ho

theorem endErase_table (o : EraseOutcome) : (s.endErase op o).store.table = s.store.table := by
  cases o <;> simp only [endErase, setOp, setStore, scramble, setArray, setFree]

theorem exec_eraseEnd {o : EraseOutcome} (hop : s.store.op = some op) (hx : op.task = .ringErase)
    (ho : o = .aborted ↔ op.aborting = true) : exec (.eraseEnd o) s = .next ((s.endErase op o).eraseEnd o).arbiter :=
  congrArg Host.Outcome.next (atEraseEnd_of_op hop hx ho _)

theorem eraseEnd_pass {n : Nat} (hphase : s.engine.phase = .erase r n) : s.eraseEnd .pass = s.setPhase (.count r) := by
  simp only [eraseEnd, hphase]

theorem eraseEnd_again {n : Nat} (hphase : s.engine.phase = .erase r n) (hn : n < 2) :
    s.eraseEnd .fail = s.setPhase (.erase r (n + 1)) := by
  simp only [eraseEnd, hphase]
  exact if_neg (Nat.not_le.2 (Nat.succ_lt_succ hn))

theorem eraseEnd_third {n : Nat} (hphase : s.engine.phase = .erase r n) (hn : 2 ≤ n) : s.eraseEnd .fail = s.wearOut r := by
  simp only [eraseEnd, hphase]
  exact if_pos (Nat.succ_le_succ hn)

theorem eraseEnd_aborted {n : Nat} (hphase : s.engine.phase = .erase r n) :
    s.eraseEnd .aborted = (s.setSectorState r .spoiled).setPhase .idle := by
  simp only [eraseEnd, hphase]

/-- A worn-out target is WORN, its fault raised and the engine IDLE, before the test for exhaustion (R92). -/
def worn (s : State) (r : RingSector) : State :=
  ((s.setSectorState r .worn).setPhase .idle).raise .storeFault (.sector r.toNat)

theorem wearOut_eq : s.wearOut r = (s.worn r).testExhausted :=
  congrArg testExhausted rfl

/-- The target as COUNT leaves it (R93, R94). -/
def counted (s : State) (r : RingSector) (o : ProgramOutcome) : State :=
  (s.setEntry r
    { s.entry r with
      eraseCount := (s.entry r).eraseCount + 1, state := countedState o ((s.entry r).eraseCount + 1) }).setPhase .idle

theorem countEnd_eq (hphase : s.engine.phase = .count r) (o : ProgramOutcome) : s.countEnd o =
    if 100000 ≤ (s.entry r).eraseCount + 1 then (s.counted r o).testExhausted else s.counted r o := by
  simp only [countEnd, hphase] <;> rfl

end State

/-- Settles O46: MARK, ERASE and COUNT lead on, and a sector that becomes WORN is tested for exhaustion. -/
theorem compactionOperationEnds : Obligations.CompactionOperationEnds := by
  unfold Obligations.CompactionOperationEnds
  intro s op r hop
  dsimp only
  refine ⟨fun o hx hsector => ?_, fun n hx hphase => ⟨fun hgoes => ⟨?_, fun hn => ?_, fun hn => ?_⟩, fun haborts => ?_⟩,
    fun hx hphase => ⟨fun hworn o => ?_, fun hsound => ⟨?_, ?_⟩⟩⟩
  · rw [exec_retireProgramEnd hop hx, hsector]
    cases o <;> rfl
  · rw [exec_eraseEnd hop hx (by simp [hgoes]), eraseEnd_pass (s := s.endErase op .pass) hphase]
    rfl
  · rw [exec_eraseEnd hop hx (by simp [hgoes]), eraseEnd_again (s := s.endErase op .fail) hphase hn]
    rfl
  · rw [exec_eraseEnd hop hx (by simp [hgoes]), eraseEnd_third (s := s.endErase op .fail) hphase hn,
      wearOut_eq]
    rw [← endErase_table .fail, ← (endErase_changes s op .fail).engine_eq]
    generalize s.endErase op .fail = u
    rfl
  · rw [exec_eraseEnd hop hx (by simp [haborts]), eraseEnd_aborted (s := s.endErase op .aborted) hphase]
    rfl
  · have hphase' : (s.endProgram op o).engine.phase = .count r := by rw [(endProgram_kept o).engine_eq, hphase]
    have hentry : (s.endProgram op o).entry r = s.store.table.get r := by rw [entry, endProgram_store]
    rw [exec_countProgramEnd hop hx, countEnd_eq hphase', hentry, if_pos hworn, counted, hentry]
    have hstate : countedState o ((s.store.table.get r).eraseCount + 1) = .worn := if_pos hworn
    rw [hstate]
    cases o <;> rfl
  · have hentry : (s.endProgram op .pass).entry r = s.store.table.get r := by rw [entry, endProgram_store]
    have hstate : countedState .pass ((s.store.table.get r).eraseCount + 1) = .erased := if_neg (Nat.not_le.2 hsound)
    rw [exec_countProgramEnd hop hx, countEnd_eq (s := s.endProgram op .pass) hphase, hentry,
      if_neg (Nat.not_le.2 hsound), counted, hentry, hstate]
    rfl
  · have hentry : (s.endProgram op .fail).entry r = s.store.table.get r := by rw [entry, endProgram_store]
    have hstate : countedState .fail ((s.store.table.get r).eraseCount + 1) = .spoiled := if_neg (Nat.not_le.2 hsound)
    rw [exec_countProgramEnd hop hx, countEnd_eq (s := s.endProgram op .fail) hphase, hentry,
      if_neg (Nat.not_le.2 hsound), counted, hentry, hstate]
    rfl

end Sys2Proof.Machine
end

section

-- One theorem at a time, as in the tests: many proofs elaborated at once each hold a thread's stack.
set_option Elab.async false

/-! The layouts: header fields, total records and configuration images read back (O14, O15, O16). -/

namespace Sys2Proof.Machine

open State

/-! ## Parts of a list of bytes -/

theorem slice_middle (xs zs ys : List Byte) : slice (xs ++ zs ++ ys) xs.length zs.length = zs := by
  rw [List.append_assoc, slice_append_right _ _ _ _ le_rfl, Nat.sub_self, slice_append_left _ _ _ _ (by simp),
    slice_zero_self _ rfl]

theorem slice_slice_append (bs : List Byte) (off m n : Nat) : slice bs off m ++ slice bs (off + m) n = slice bs off (m + n) := by
  simp only [slice]
  rw [List.take_add, List.drop_drop]

/-- A number is read wherever its bytes stand. -/
theorem field_of_parts {bs : List Byte} {off n v : Nat} (xs ys : List Byte) (hbs : bs = xs ++ leBytes n v ++ ys)
    (hoff : xs.length = off) (hv : v < 256 ^ n) : field bs off n = v := by
  rw [hbs, ← hoff, field_append_leBytes _ _ hv]

theorem allFF_iff {bs : List Byte} : allFF bs = true ↔ bs = List.replicate bs.length 0xFF#8 := by
  simp only [allFF, List.all_eq_true, beq_iff_eq, List.eq_replicate_iff, true_and]

theorem allFF_replicate (n : Nat) : allFF (List.replicate n 0xFF) = true :=
  allFF_iff.2 (by rw [List.length_replicate]; rfl)

theorem allFF_append (xs ys : List Byte) : allFF (xs ++ ys) = (allFF xs && allFF ys) := List.all_append

/-! ## Header fields -/

theorem leNat_replicate (n : Nat) : leNat (List.replicate n 0xFF#8) + 1 = 256 ^ n := by
  induction n with
  | zero => rfl
  | succ n ih =>
    have hstep : leNat (List.replicate (n + 1) 0xFF#8) = 255 + 256 * leNat (List.replicate n 0xFF#8) := rfl
    rw [hstep, Nat.pow_succ, ← ih]
    omega

/-- Only the largest value's bytes are all FFh. -/
theorem eq_of_allFF_leBytes {n v : Nat} (hv : v < 256 ^ n) (h : allFF (leBytes n v) = true) : v + 1 = 256 ^ n := by
  have hbytes : leBytes n v = List.replicate n 0xFF#8 := by
    have hall := allFF_iff.1 h
    rwa [leBytes_length] at hall
  rw [← leNat_replicate n, ← hbytes, leNat_leBytes, Nat.mod_eq_of_lt hv]

theorem foldl_xor_replicate (n : Nat) {b : Byte} (h : b = 0x5A#8 ∨ b = 0xA5#8) :
    (List.replicate n 0xFF#8).foldl (· ^^^ ·) b = 0x5A#8 ∨ (List.replicate n 0xFF#8).foldl (· ^^^ ·) b = 0xA5#8 := by
  induction n generalizing b with
  | zero => exact h
  | succ n ih =>
    refine ih ?_
    obtain rfl | rfl := h
    · exact .inr rfl
    · exact .inl rfl

/-- The check of bytes that are all FFh is not FFh: no programmed field reads unwritten (R189). -/
theorem fieldCheck_ne_of_allFF {bs : List Byte} (h : allFF bs = true) : fieldCheck bs ≠ 0xFF := by
  rw [allFF_iff.1 h, fieldCheck]
  obtain hcheck | hcheck := foldl_xor_replicate bs.length (b := 0x5A#8) (.inl rfl) <;> rw [hcheck] <;> decide

/-- A field of n bytes and its check byte, wherever it stands. -/
theorem readField_middle (xs ys vs : List Byte) (b : Byte) : readField (xs ++ (vs ++ [b]) ++ ys) xs.length vs.length =
    if allFF (vs ++ [b]) then .unwritten else if b = fieldCheck vs then .valid (leNat vs) else .broken := by
  have hall : slice (xs ++ (vs ++ [b]) ++ ys) xs.length (vs.length + 1) = vs ++ [b] := by
    have hmiddle := slice_middle xs (vs ++ [b]) ys
    rwa [List.length_append, List.length_singleton] at hmiddle
  have hvalue : slice (xs ++ (vs ++ [b]) ++ ys) xs.length vs.length = vs := by
    have hmiddle := slice_middle xs vs ([b] ++ ys)
    rwa [List.append_assoc, ← List.append_assoc vs, ← List.append_assoc] at hmiddle
  have hcheck : slice (xs ++ (vs ++ [b]) ++ ys) (xs.length + vs.length) 1 = [b] := by
    have hmiddle := slice_middle (xs ++ vs) [b] ys
    rwa [List.append_assoc xs, List.length_append, List.length_singleton] at hmiddle
  rw [readField, hall, hcheck, hvalue, field, hvalue]
  simp only [List.cons.injEq, and_true]

/-- Settles O16: the check, and whether every byte is FFh, tell the three readings apart. -/
theorem headerFieldsReadByTheirCheck : Obligations.HeaderFieldsReadByTheirCheck := by
  unfold Obligations.HeaderFieldsReadByTheirCheck
  intro n v xs ys _ hv
  have hread : ∀ b, readField (xs ++ (leBytes n v ++ [b]) ++ ys) xs.length n =
      if allFF (leBytes n v ++ [b]) then .unwritten else if b = fieldCheck (leBytes n v) then .valid v else .broken := fun b => by
    have hmiddle := readField_middle xs ys (leBytes n v) b
    rwa [leBytes_length, leNat_leBytes, Nat.mod_eq_of_lt hv] at hmiddle
  refine ⟨?_, ?_, fun b hb hmax => ?_⟩
  · have hwritten : ¬ allFF (leBytes n v ++ [fieldCheck (leBytes n v)]) = true := by
      rw [allFF_append, Bool.and_eq_true]
      rintro ⟨hvalue, hcheck⟩
      refine fieldCheck_ne_of_allFF hvalue ?_
      simpa [allFF] using hcheck
    rw [fieldBytes, hread, if_neg hwritten, if_pos rfl]
  · have hslice := slice_middle xs (List.replicate (n + 1) 0xFF) ys
    rw [List.length_replicate] at hslice
    rw [readField, hslice, if_pos (allFF_replicate _)]
  · have hwritten : ¬ allFF (leBytes n v ++ [b]) = true := by
      rw [allFF_append, Bool.and_eq_true]
      rintro ⟨hvalue, hcheck⟩
      exact hmax (by simpa [allFF] using hcheck) (eq_of_allFF_leBytes hv hvalue)
    rw [List.append_assoc xs, hread, if_neg hwritten, if_neg hb]

/-! ## Total records -/

theorem Cause.ofCode?_code (k : Cause) : Cause.ofCode? k.code = some k := by cases k <;> rfl

theorem Cause.code_lt (k : Cause) : k.code < 256 := by cases k <;> decide

@[simp] theorem bucketBytes_length (b : PerTariff Bucket) : (bucketBytes b).length = 20 := by
  simp [bucketBytes]

@[simp] theorem recordBody_length (r : RecordContent) (q : Nat) : (recordBody r q).length = 29 := by
  simp [recordBody]

theorem recordBytes_length (r : RecordContent) (q : Nat) : (recordBytes r q).length = 31 := by
  simp [recordBytes]

theorem slot_eq (r : RecordContent) (q : Nat) (b : Byte) :
    recordBytes r q ++ [b] = recordBody r q ++ (crcBytes (recordBody r q) ++ [b]) := by
  rw [recordBytes, List.append_assoc]

theorem slot_confirm (r : RecordContent) (q : Nat) (b : Byte) : field (recordBytes r q ++ [b]) confirmOffset 1 = b.toNat := by
  rw [field_append_right _ _ _ _ (by rw [recordBytes_length]; decide), recordBytes_length]
  exact field_zero_cons b []

theorem slot_crc (r : RecordContent) (q : Nat) (b : Byte) :
    slice (recordBytes r q ++ [b]) 29 2 = crcBytes ((recordBytes r q ++ [b]).take 29) := by
  have htake : (recordBytes r q ++ [b]).take 29 = recordBody r q := by
    rw [slot_eq, List.take_append_of_le_length (by simp), List.take_of_length_le (by simp)]
  rw [htake, slot_eq, ← List.append_assoc]
  have hmiddle := slice_middle (recordBody r q) (crcBytes (recordBody r q)) [b]
  rwa [recordBody_length, crcBytes_length] at hmiddle

/-- The fields of a record's body, read from any bytes that begin with it (R191). -/
theorem recordBody_fields (r : RecordContent) (q : Nat) (hlost : r.lost < 2 ^ 16) (hq : q < 2 ^ 32) (ys : List Byte) :
    field (recordBody r q ++ ys) 0 1 = r.channel.toNat ∧ field (recordBody r q ++ ys) 1 4 = q ∧
      field (recordBody r q ++ ys) 5 1 = r.cause.code ∧ field (recordBody r q ++ ys) 6 1 = r.tariff.toNat + 16 ∧
      readBuckets (recordBody r q ++ ys) 7 = r.buckets ∧ field (recordBody r q ++ ys) 27 2 = r.lost := by
  have htariff : r.tariff.toNat + 16 < 256 := by cases r.tariff <;> decide
  have hchannel : r.channel.toNat < 256 := by cases r.channel <;> decide
  let ch := leBytes 1 r.channel.toNat
  let sq := leBytes 4 q
  let k := leBytes 1 r.cause.code
  let t := leBytes 1 (r.tariff.toNat + 16)
  let l := leBytes 2 r.lost
  refine ⟨?_, ?_, ?_, ?_, ?_, ?_⟩
  · exact field_of_parts [] (sq ++ k ++ t ++ bucketBytes r.buckets ++ l ++ ys) (by simp [recordBody, sq, k, t, l]) rfl hchannel
  · exact field_of_parts ch (k ++ t ++ bucketBytes r.buckets ++ l ++ ys) (by simp [recordBody, ch, k, t, l]) rfl hq
  · exact field_of_parts (ch ++ sq) (t ++ bucketBytes r.buckets ++ l ++ ys) (by simp [recordBody, ch, sq, t, l]) rfl
      r.cause.code_lt
  · exact field_of_parts (ch ++ sq ++ k) (bucketBytes r.buckets ++ l ++ ys) (by simp [recordBody, ch, sq, k, l]) rfl htariff
  · have hbuckets := readBuckets_bucketBytes (ch ++ sq ++ k ++ t) (l ++ ys) r.buckets
    simpa [recordBody, ch, sq, k, t, l] using hbuckets
  · exact field_of_parts (ch ++ sq ++ k ++ t ++ bucketBytes r.buckets) ys (by simp [recordBody, ch, sq, k, t]) (by simp [ch, sq, k, t])
      hlost

/-- Settles O14: every field of the body reads back, and the confirm mark alone decides. -/
theorem recordsReadBackOnceConfirmed : Obligations.RecordsReadBackOnceConfirmed := by
  unfold Obligations.RecordsReadBackOnceConfirmed
  intro r q hlost hq
  refine ⟨recordBytes_length r q, ?_, fun b hb => ?_⟩
  · obtain ⟨hchannel, hsequence, hcause, htariff, hbuckets, hlost⟩ :=
      recordBody_fields r q hlost hq (crcBytes (recordBody r q) ++ [0])
    rw [← slot_eq] at hchannel hsequence hcause htariff hbuckets hlost
    have hcode : Tariff.ofNat? ((r.tariff.toNat + 16) % 4) = some r.tariff := by cases r.tariff <;> rfl
    rw [parseRecord, if_pos ⟨slot_confirm r q 0, slot_crc r q 0⟩]
    simp only [hchannel, hsequence, hcause, htariff, hbuckets, hlost, hcode, Channel.ofNat?_toNat, Cause.ofCode?_code]
  · refine if_neg fun h => hb ?_
    have hmark := h.1
    rw [slot_confirm] at hmark
    exact BitVec.eq_of_toNat_eq hmark

/-! ## Configuration images -/

@[simp] theorem channelConfigBytes_length (k : ChannelConfig) : (channelConfigBytes k).length = 9 := by
  simp [channelConfigBytes]

@[simp] theorem globalConfigBytes_length (k : GlobalConfig) : (globalConfigBytes k).length = 6 := by
  simp [globalConfigBytes]

/-- A channel's settings in range read back wherever they stand (R100, R192). -/
theorem readChannelConfig_of_parts {bs : List Byte} {off : Nat} {k : ChannelConfig} (xs ys : List Byte)
    (hbs : bs = xs ++ channelConfigBytes k ++ ys) (hoff : xs.length = off) (hf : k.filter ≤ 15) (hw : 1 ≤ k.weight)
    (hmax : k.weight ≤ 65535) (ht : k.threshold ≤ 4294967295) : readChannelConfig bs off = some k := by
  let m := leBytes 1 k.mode.code
  let p := leBytes 1 k.polarity.code
  let f := leBytes 1 k.filter
  let w := leBytes 2 k.weight
  let t := leBytes 4 k.threshold
  have hmode : field bs off 1 = k.mode.code :=
    field_of_parts xs (p ++ f ++ w ++ t ++ ys) (by simp [hbs, channelConfigBytes, p, f, w, t]) hoff (by cases k.mode <;> decide)
  have hpolarity : field bs (off + 1) 1 = k.polarity.code :=
    field_of_parts (xs ++ m) (f ++ w ++ t ++ ys) (by simp [hbs, channelConfigBytes, m, f, w, t]) (by simp [hoff, m])
      (by cases k.polarity <;> decide)
  have hfilter : field bs (off + 2) 1 = k.filter :=
    field_of_parts (xs ++ m ++ p) (w ++ t ++ ys) (by simp [hbs, channelConfigBytes, m, p, w, t]) (by simp [hoff, m, p]) (by omega)
  have hweight : field bs (off + 3) 2 = k.weight :=
    field_of_parts (xs ++ m ++ p ++ f) (t ++ ys) (by simp [hbs, channelConfigBytes, m, p, f, t]) (by simp [hoff, m, p, f])
      (by omega)
  have hthreshold : field bs (off + 5) 4 = k.threshold :=
    field_of_parts (xs ++ m ++ p ++ f ++ w) ys (by simp [hbs, channelConfigBytes, m, p, f, w]) (by simp [hoff, m, p, f, w])
      (by omega)
  rw [readChannelConfig_eq_some hmode hpolarity (by rw [hfilter]; exact hf) (by rw [hweight]; exact hw), hfilter, hweight, hthreshold]

/-- The global settings in range read back wherever they stand (R100, R192). -/
theorem readGlobalConfig_of_parts {bs : List Byte} {off : Nat} {k : GlobalConfig} (xs ys : List Byte)
    (hbs : bs = xs ++ globalConfigBytes k ++ ys) (hoff : xs.length = off) (hi : k.commitInterval ≤ 3600)
    (hlo : 10 ≤ k.idleTimeout) (hhi : k.idleTimeout ≤ 600) : readGlobalConfig bs off = some k := by
  let i := leBytes 2 k.commitInterval
  let t := leBytes 1 k.tariffSource.code
  let y := leBytes 1 (boolByte k.commitOnTariff).toNat
  let d := leBytes 2 k.idleTimeout
  have hbytes : globalConfigBytes k = i ++ t ++ y ++ d := by simp [globalConfigBytes, i, t, y, d]
  have hinterval : field bs off 2 = k.commitInterval :=
    field_of_parts xs (t ++ y ++ d ++ ys) (by simp [hbs, hbytes, i]) hoff (by omega)
  have hsource : field bs (off + 2) 1 = k.tariffSource.code :=
    field_of_parts (xs ++ i) (y ++ d ++ ys) (by simp [hbs, hbytes, t]) (by simp [hoff, i]) (by cases k.tariffSource <;> decide)
  have hcommit : field bs (off + 3) 1 = (boolByte k.commitOnTariff).toNat :=
    field_of_parts (xs ++ i ++ t) (d ++ ys) (by simp [hbs, hbytes, y]) (by simp [hoff, i, t]) (boolByte k.commitOnTariff).isLt
  have hidle : field bs (off + 4) 2 = k.idleTimeout :=
    field_of_parts (xs ++ i ++ t ++ y) ys (by simp [hbs, hbytes, d]) (by simp [hoff, i, t, y]) (by omega)
  have hyes : yesNo? (boolByte k.commitOnTariff).toNat = some k.commitOnTariff := by cases k.commitOnTariff <;> rfl
  rw [readGlobalConfig_eq_some (by rw [hsource, TariffSource.ofCode?_code]) (by rw [hcommit, hyes]) (by rw [hinterval]; exact hi)
    (by rw [hidle]; exact hlo) (by rw [hidle]; exact hhi), hinterval, hidle]

@[simp] theorem imageBody_length (c : Configuration) (g : Nat) : (imageBody c g).length = 126 := by
  simp [imageBody]

theorem imageBytes_length (c : Configuration) (g : Nat) : (imageBytes c g).length = 128 := by
  simp [imageBytes]

theorem imageSlots_eq (c : Configuration) (g : Nat) :
    imageSlotBytes c g 0 ++ imageSlotBytes c g 1 ++ imageSlotBytes c g 2 ++ imageSlotBytes c g 3 = imageBytes c g := by
  simp only [imageSlotBytes, slotSize, Nat.zero_mul, Nat.one_mul, Nat.reduceMul]
  rw [slice_slice_append _ 0, slice_slice_append _ 0, slice_slice_append _ 0, slice_zero_self _ (imageBytes_length c g)]

theorem imageSlotBytes_length (c : Configuration) (g : Nat) {k : Nat} (hk : k < 4) : (imageSlotBytes c g k).length = 32 := by
  simp only [imageSlotBytes, slice, List.length_take, List.length_drop, imageBytes_length, slotSize]
  omega

theorem imageBytes_crc (c : Configuration) (g : Nat) : imageCrcMatches (imageBytes c g) = true := by
  have htake : (imageBytes c g).take 126 = imageBody c g := by
    rw [imageBytes, List.take_append_of_le_length (by simp), List.take_of_length_le (by simp)]
  have hcrc := slice_middle (imageBody c g) (crcBytes (imageBody c g)) []
  rw [List.append_nil, imageBody_length, crcBytes_length] at hcrc
  rw [imageCrcMatches, htake, imageBytes, hcrc, beq_self_eq_true]

theorem exists_imageBytes_head (c : Configuration) (g : Nat) :
    ∃ rest, imageBytes c g = leBytes 1 1 ++ leBytes 4 g ++ globalConfigBytes c.globals ++ rest := by
  simp only [imageBytes, imageBody, List.append_assoc, List.append_cancel_left_eq]
  exact ⟨_, rfl⟩

/-- Where each channel's entry stands (R192). -/
theorem slice_imageBytes_channel (c : Configuration) (g : Nat) (ch : Channel) :
    slice (imageBytes c g) (imageChannelOffset ch) 9 = channelConfigBytes (c.channels.get ch) := by
  rw [← channelConfigBytes_length (c.channels.get ch)]
  simp only [imageBytes, imageBody, List.append_assoc]
  cases ch <;> simp [imageChannelOffset, slice_append_right, slice_append_left, -List.reduceReplicate]

theorem eq_take_slice_drop (bs : List Byte) (off n : Nat) : bs = bs.take off ++ slice bs off n ++ bs.drop (off + n) := by
  rw [List.append_assoc, slice, ← List.drop_drop, List.take_append_drop, List.take_append_drop]

theorem imageChannelOffset_le (ch : Channel) : imageChannelOffset ch ≤ 128 := by cases ch <;> decide

theorem readChannelConfig_imageBytes (c : Configuration) (g : Nat) (ch : Channel) (hf : (c.channels.get ch).filter ≤ 15)
    (hw : 1 ≤ (c.channels.get ch).weight) (hmax : (c.channels.get ch).weight ≤ 65535)
    (ht : (c.channels.get ch).threshold ≤ 4294967295) :
    readChannelConfig (imageBytes c g) (imageChannelOffset ch) = some (c.channels.get ch) := by
  have hparts := eq_take_slice_drop (imageBytes c g) (imageChannelOffset ch) 9
  rw [slice_imageBytes_channel] at hparts
  refine readChannelConfig_of_parts _ _ hparts ?_ hf hw hmax ht
  rw [List.length_take, imageBytes_length, Nat.min_eq_left (imageChannelOffset_le ch)]

theorem allChannels?_eq_some {α : Type} {f : Channel → Option α} {v : PerChannel α} (h : ∀ c, f c = some (v.get c)) :
    allChannels? f = some v := by
  simp only [allChannels?, h]
  rfl

/-- Settles O15: the 128 bytes' version, generation, globals and channels are each read from where they stand. -/
theorem imagesReadBack : Obligations.ImagesReadBack := by
  unfold Obligations.ImagesReadBack
  intro c g hlo hhi hchannels hinterval hshort hlong
  refine ⟨?_, fun k hk => imageSlotBytes_length c g hk⟩
  obtain ⟨rest, hhead⟩ := exists_imageBytes_head c g
  have hversion : field (imageBytes c g) 0 1 = 1 :=
    field_of_parts [] (leBytes 4 g ++ globalConfigBytes c.globals ++ rest) (by rw [hhead]; simp) rfl (by decide)
  have hgeneration : field (imageBytes c g) 1 4 = g :=
    field_of_parts (leBytes 1 1) (globalConfigBytes c.globals ++ rest) (by rw [hhead]; simp) rfl (by omega)
  have hglobals : readGlobalConfig (imageBytes c g) 5 = some c.globals :=
    readGlobalConfig_of_parts (leBytes 1 1 ++ leBytes 4 g) rest hhead rfl hinterval hshort hlong
  have hsettings : allChannels? (fun ch => readChannelConfig (imageBytes c g) (imageChannelOffset ch)) = some c.channels :=
    allChannels?_eq_some fun ch => by
      obtain ⟨hf, hw, hmax, ht⟩ := hchannels ch
      exact readChannelConfig_imageBytes c g ch hf hw hmax ht
  rw [imageSlots_eq, parseImage, if_pos (by rw [hversion, hgeneration]; exact ⟨rfl, hlo, hhi, imageBytes_crc c g⟩)]
  simp only [hsettings, hglobals, hgeneration]

end Sys2Proof.Machine
end

section

-- One theorem at a time, as in the tests: many proofs elaborated at once each hold a thread's stack.
set_option Elab.async false

/-! Second events, the session's closes and the changes of a channel's level (O31, O32, O34). -/

namespace Sys2Proof.Machine

open State

/-! ## INTERVAL at the commit queue -/

/-- INTERVAL, the lowest of the queue causes, changes no entry there is (R38). -/
theorem higher_interval {k : Cause} (h : k ≠ .compact) : k.higher .interval = k := by
  cases k with
  | compact => exact absurd rfl h
  | _ => rfl

theorem mergeCause_interval_present {q : List QueueEntry} {c : Channel} (hk : ∀ e ∈ q, e.cause ≠ .compact)
    (hc : ∃ e ∈ q, e.channel = c) : mergeCause q c .interval none = q := by
  induction q with
  | nil =>
    obtain ⟨e, he, -⟩ := hc
    cases he
  | cons e q ih =>
    obtain ⟨he, hq⟩ := List.forall_mem_cons.1 hk
    rw [mergeCause]
    split
    · rw [higher_interval he, Option.toList_none, List.append_nil]
    · next hne =>
      obtain ⟨d, hd, hdc⟩ := hc
      obtain rfl | hd := List.mem_cons.1 hd
      · exact absurd hdc hne
      · rw [ih hq ⟨d, hd, hdc⟩]

/-- The entry that INTERVAL makes for a channel (R38, R41). -/
def intervalEntry (c : Channel) : QueueEntry := { channel := c, cause := .interval, waiters := [] }

/-- INTERVAL for several channels: those without an entry join the tail in their order (R38, R41). -/
theorem mergeAll_interval {cs : List Channel} (hcs : cs.Nodup) : ∀ {q : List QueueEntry}, (∀ e ∈ q, e.cause ≠ .compact) →
    mergeAll q cs .interval none = q ++ (cs.filter fun c => !q.any fun e => e.channel == c).map intervalEntry := by
  induction cs with
  | nil => exact fun _ => (List.append_nil _).symm
  | cons c cs ih =>
    intro q hq
    obtain ⟨hc, hcs⟩ := List.nodup_cons.1 hcs
    have hstep : mergeAll q (c :: cs) .interval none = mergeAll (mergeCause q c .interval none) cs .interval none := rfl
    rw [hstep]
    by_cases hin : ∃ e ∈ q, e.channel = c
    · have hany : (q.any fun e => e.channel == c) = true := by simpa using hin
      rw [mergeCause_interval_present hq hin, ih hcs hq, List.filter_cons_of_neg (by simp [hany])]
    · have hany : (q.any fun e => e.channel == c) = false := by simpa using hin
      have hnew : ∀ e ∈ q ++ [intervalEntry c], e.cause ≠ .compact := by
        simp only [List.mem_append, List.mem_singleton]
        rintro e (he | rfl)
        · exact hq e he
        · exact fun h => by cases h
      have hrest : (cs.filter fun d => !(q ++ [intervalEntry c]).any fun e => e.channel == d) =
          cs.filter fun d => !q.any fun e => e.channel == d := by
        refine List.filter_congr fun d hd => ?_
        have hne : (intervalEntry c).channel ≠ d := fun h => hc (by rw [show c = d from h]; exact hd)
        simp [hne]
      have hmerge : mergeCause q c .interval none = q ++ [intervalEntry c] :=
        mergeCause_absent (fun e he hec => hin ⟨e, he, hec⟩) _ _
      rw [hmerge, ih hcs hnew, hrest, List.filter_cons_of_pos (by simp [hany]), List.map_cons, List.append_assoc]
      rfl

namespace State

variable {s : State}

theorem deliverAll_of_not_exhausted (cs : List Channel) (k : Cause) (w : Option JobSlot) : ∀ s : State,
    s.store.exhausted = false → s.deliverAll cs k w = s.setQueue (mergeAll s.sched.queue cs k w) := by
  induction cs with
  | nil => exact fun s _ => rfl
  | cons c cs ih =>
    intro s h
    have hstep : s.deliverAll (c :: cs) k w = (s.deliverCause c k w).deliverAll cs k w := rfl
    rw [hstep, s.deliverCause_of_not_exhausted h, ih _ (by exact h)]
    rfl

/-- An EXHAUSTED store's queue that is empty stays so, and a cause without a waiter changes nothing (R51). -/
theorem deliverCause_of_empty (h : s.store.exhausted = true) (hq : s.sched.queue = []) (hw : s.sched.headWaiting = false)
    (c : Channel) (k : Cause) : s.deliverCause c k none = s := by
  have hdrop : s.dropQueue = s := by
    unfold dropQueue
    rw [← hq, ← hw]
    rfl
  rw [s.deliverCause_of_exhausted h, hq, hdrop]
  rfl

theorem deliverAll_of_empty (h : s.store.exhausted = true) (hq : s.sched.queue = []) (hw : s.sched.headWaiting = false)
    (cs : List Channel) (k : Cause) : s.deliverAll cs k none = s :=
  List.foldlRecOn (motive := fun x => x = s) cs _ rfl fun x hx c _ => by rw [hx, deliverCause_of_empty h hq hw]

/-! ## The second event -/

theorem intervalRuns_iff : s.intervalRuns = true ↔ s.power.device = .run ∧ 1 ≤ s.config.live.globals.commitInterval := by
  simp [intervalRuns, isRun]

theorem intervalDue_iff : s.intervalDue = true ↔
    (s.power.device = .run ∧ 1 ≤ s.config.live.globals.commitInterval) ∧
      s.config.live.globals.commitInterval ≤ s.sched.interval + 1 := by
  rw [intervalDue, Bool.and_eq_true, intervalRuns_iff, decide_eq_true_iff]

theorem secondDue_iff : s.secondDue = true ↔ s.timebase.second = 999 := by
  simp [secondDue, Config.ticksPerSecond]

/-- The second event before the idle timer: the second counter starts again, the retry wait is cleared and the scheduler has
counted its second (R1, R41, R89). -/
def secondCounted (s : State) (x : Scheduler) : State :=
  { s with timebase := { s.timebase with second := 0 }, engine := { s.engine with retryWait := false }, sched := x }

theorem takeSecond_of_runs (hdue : s.intervalDue = false) (hruns : s.intervalRuns = true) :
    s.takeSecond = (s.secondCounted { s.sched with interval := s.sched.interval + 1 }).idleSecond := by
  have hdue' : (s.setTimebase { s.timebase with second := 0 }).clearRetryWait.intervalDue = false := hdue
  have hruns' : (s.setTimebase { s.timebase with second := 0 }).clearRetryWait.intervalRuns = true := hruns
  rw [takeSecond, secondEffects, intervalSecond, hdue', hruns']
  rfl

theorem takeSecond_of_held (hdue : s.intervalDue = false) (hruns : s.intervalRuns = false) :
    s.takeSecond = (s.secondCounted s.sched).idleSecond := by
  have hdue' : (s.setTimebase { s.timebase with second := 0 }).clearRetryWait.intervalDue = false := hdue
  have hruns' : (s.setTimebase { s.timebase with second := 0 }).clearRetryWait.intervalRuns = false := hruns
  rw [takeSecond, secondEffects, intervalSecond, hdue', hruns']
  rfl

theorem takeSecond_of_due (hdue : s.intervalDue = true) : s.takeSecond =
    ((s.secondCounted { s.sched with interval := 0 }).deliverAll s.dirtyChannels .interval none).idleSecond := by
  have hdue' : (s.setTimebase { s.timebase with second := 0 }).clearRetryWait.intervalDue = true := hdue
  rw [takeSecond, secondEffects, intervalSecond, hdue']
  rfl

theorem idleSecond_closed (h : s.service.session = .closed) : s.idleSecond = s := by
  simp [idleSecond, idleDue, h]

theorem idleSecond_counted {n : Nat} (h : s.service.session = .opened n) (hn : n + 1 < s.config.live.globals.idleTimeout) :
    s.idleSecond = s.setService { s.service with session := .opened (n + 1) } := by
  have hdue : s.idleDue = false := by simpa [idleDue, h] using hn
  simp only [idleSecond, hdue, h]
  rfl

theorem idleDue_of_opened {n : Nat} (h : s.service.session = .opened n) (hn : s.config.live.globals.idleTimeout ≤ n + 1) :
    s.idleDue = true := by
  simpa [idleDue, h] using hn

theorem idleSecond_due {n : Nat} (h : s.service.session = .opened n) (hn : s.config.live.globals.idleTimeout ≤ n + 1) :
    s.idleSecond = s.closeSession (some .timeout) := by
  rw [idleSecond, if_pos (idleDue_of_opened h hn)]

theorem exec_secondEvent (halive : s.alive = true) (h : s.timebase.second = 999) :
    exec .secondEvent s = .next s.takeSecond.arbiter :=
  congrArg Host.Outcome.next (if_pos (by rw [halive, secondDue_iff.2 h]; rfl))

theorem exec_intervalTimerExpiry (halive : s.alive = true) (h : s.timebase.second = 999) (hdue : s.intervalDue = true) :
    exec .intervalTimerExpiry s = .next s.takeSecond.arbiter :=
  congrArg Host.Outcome.next (if_pos (by rw [halive, secondDue_iff.2 h, hdue]; rfl))

theorem exec_idleTimerExpiry (halive : s.alive = true) (h : s.timebase.second = 999) (hdue : s.idleDue = true) :
    exec .idleTimerExpiry s = .next s.takeSecond.arbiter :=
  congrArg Host.Outcome.next (if_pos (by rw [halive, secondDue_iff.2 h, hdue]; rfl))

/-- A command in which a second event happens leaves the idle timer's outcome behind what its receivers counted. -/
theorem idleSecond_happens {c : Instr} {x : Scheduler} (h : exec c s = .next (s.secondCounted x).idleSecond.arbiter) :
    (s.service.session = .closed →
      exec c s = .next ((s.secondCounted x).setService { s.service with session := .closed }).arbiter) ∧
    ∀ n, s.service.session = .opened n →
      (n + 1 < s.config.live.globals.idleTimeout →
        exec c s = .next ((s.secondCounted x).setService { s.service with session := .opened (n + 1) }).arbiter) ∧
      (s.config.live.globals.idleTimeout ≤ n + 1 →
        exec c s = .next
          ((((s.secondCounted x).setService { s.service with session := .closed }).setConfig
            { s.config with staged := s.config.live }).raise .service (.reasons 2)).arbiter) := by
  refine ⟨fun hclosed => ?_, fun n hn => ⟨fun hlt => ?_, fun hle => ?_⟩⟩
  · have hservice : { s.service with session := .closed } = s.service := by rw [← hclosed]
    rw [h, idleSecond_closed (by exact hclosed), hservice]
    rfl
  · rw [h, idleSecond_counted (s := s.secondCounted x) hn hlt]
    rfl
  · rw [h, idleSecond_due (s := s.secondCounted x) hn hle, closeSession_opened (s := s.secondCounted x) hn]
    rfl

/-- The interval timer's expiry in a second event (R38, R41). -/
theorem takeSecond_expiry (hdue : s.intervalDue = true) (hq : QueueLaw s) (h : s.store.exhausted = false) : s.takeSecond =
    (s.secondCounted
      { s.sched with
        interval := 0
        queue := s.sched.queue ++ (Channel.all.filter fun c => s.dirty c && !s.queued c).map intervalEntry }).idleSecond := by
  have hnodup : s.dirtyChannels.Nodup := List.Nodup.filter _ (by decide)
  have hqueue : mergeAll s.sched.queue s.dirtyChannels .interval none =
      s.sched.queue ++ (Channel.all.filter fun c => s.dirty c && !s.queued c).map intervalEntry := by
    rw [mergeAll_interval hnodup fun e he => (hq.causes e he).2, dirtyChannels, List.filter_filter]
    simp only [Bool.and_comm, queued]
  rw [takeSecond_of_due hdue, deliverAll_of_not_exhausted _ _ _ _ (by exact h), ← hqueue]
  rfl

/-- The expiry while the store is EXHAUSTED (R51). -/
theorem takeSecond_exhausted (hdue : s.intervalDue = true) (h : s.store.exhausted = true) (hq : s.sched.queue = [])
    (hw : s.sched.headWaiting = false) :
    s.takeSecond = (s.secondCounted { s.sched with interval := 0 }).idleSecond := by
  rw [takeSecond_of_due hdue, deliverAll_of_empty (by exact h) (by exact hq) (by exact hw)]

end State

/-- Settles O31: the receivers of a second event, and INTERVAL for the dirty channels that have no entry. -/
theorem secondEventAndIntervalExpiry : Obligations.SecondEventAndIntervalExpiry := by
  unfold Obligations.SecondEventAndIntervalExpiry
  intro s halive
  dsimp only
  rw [← intervalDue_iff]
  refine ⟨fun h hdue => ⟨fun hruns => idleSecond_happens ?_, fun hruns => idleSecond_happens ?_⟩,
    fun h hdue hq => ⟨fun hroom => idleSecond_happens ?_, fun hfull hempty hwait => idleSecond_happens ?_⟩,
    fun h hdue => ?_, fun h => ⟨?_, ?_⟩, fun hdue => ?_⟩
  · rw [exec_secondEvent halive h, takeSecond_of_runs (Bool.eq_false_iff.2 hdue) (intervalRuns_iff.2 hruns)]
  · rw [exec_secondEvent halive h,
      takeSecond_of_held (Bool.eq_false_iff.2 hdue) (Bool.eq_false_iff.2 (mt intervalRuns_iff.1 hruns))]
  · rw [exec_intervalTimerExpiry halive h hdue, takeSecond_expiry hdue hq hroom]
    rfl
  · rw [exec_intervalTimerExpiry halive h hdue, takeSecond_exhausted hdue hfull hempty hwait]
  · rw [exec_intervalTimerExpiry halive h hdue, exec_secondEvent halive h]
  · refine congrArg Host.Outcome.next (if_neg ?_)
    rw [Bool.and_eq_true, secondDue_iff]
    exact fun hboth => h hboth.2
  · refine congrArg Host.Outcome.next (if_neg ?_)
    simp only [Bool.and_eq_true, secondDue_iff]
    exact fun hall => h hall.1.2
  · refine congrArg Host.Outcome.next (if_neg ?_)
    rw [Bool.and_eq_true]
    exact fun hall => hdue hall.2

/-! ## The session's closes -/

namespace State

variable {s : State}

theorem exec_svcFilteredChange (halive : s.alive = true) (hlevel : s.service.svcSync ≠ s.service.svcFiltered)
    (hrun : s.service.svcRun + 1 = 20) : exec .svcFilteredChange s = .next s.svcChange := by
  refine congrArg Host.Outcome.next (if_pos ?_)
  simp [svcDue, halive, hlevel, hrun, Config.lineFilterTicks]

theorem idleDue_eq_false (h : s.service.session = .closed ∨
    ∃ n, s.service.session = .opened n ∧ n + 1 < s.config.live.globals.idleTimeout) : s.idleDue = false := by
  obtain hclosed | ⟨n, hn, hlt⟩ := h
  · simp [idleDue, hclosed]
  · simpa [idleDue, hn] using hlt

/-- The SVC filter's new level, before what the level does to the session (R112). -/
def svcTaken (s : State) : State := s.setService { s.service with svcFiltered := s.service.svcSync, svcRun := 0 }

theorem svcChange_eq : s.svcChange = if s.service.svcSync then s.svcTaken else s.svcTaken.closeSession (some .line) := rfl

end State

/-- Settles O32: TIMEOUT at the second event that completes the idle timeout, LINE at the SVC filter's change to inactive. -/
theorem sessionClosesByTimeoutOrLine : Obligations.SessionClosesByTimeoutOrLine := by
  unfold Obligations.SessionClosesByTimeoutOrLine
  refine ⟨fun s halive => ⟨fun n h hn hle => ?_, fun hno => ?_⟩, fun s halive hlevel hrun => ?_⟩
  · have hidle : s.idleDue = true := idleDue_of_opened hn hle
    refine ⟨fun hdue => ?_, ?_⟩
    · by_cases hruns : s.power.device = .run ∧ 1 ≤ s.config.live.globals.commitInterval
      · have hnext : exec .idleTimerExpiry s =
            .next (s.secondCounted { s.sched with interval := s.sched.interval + 1 }).idleSecond.arbiter := by
          rw [exec_idleTimerExpiry halive h hidle, takeSecond_of_runs hdue (intervalRuns_iff.2 hruns)]
        rw [if_pos hruns]
        exact ((idleSecond_happens hnext).2 n hn).2 hle
      · have hnext : exec .idleTimerExpiry s = .next (s.secondCounted s.sched).idleSecond.arbiter := by
          rw [exec_idleTimerExpiry halive h hidle,
            takeSecond_of_held hdue (Bool.eq_false_iff.2 (mt intervalRuns_iff.1 hruns))]
        rw [if_neg hruns]
        exact ((idleSecond_happens hnext).2 n hn).2 hle
    · rw [exec_idleTimerExpiry halive h hidle, exec_secondEvent halive h]
  · refine congrArg Host.Outcome.next (if_neg ?_)
    simp only [Bool.and_eq_true, secondDue_iff]
    rintro ⟨⟨-, hsecond⟩, hidle⟩
    obtain hearly | hsession := hno
    · exact hearly hsecond
    · rw [idleDue_eq_false hsession] at hidle
      cases hidle
  · rw [exec_svcFilteredChange halive hlevel hrun, svcChange_eq]
    refine ⟨fun hactive => ?_, fun hinactive hclosed => ?_, fun n hinactive hn => ?_⟩
    · rw [if_pos hactive, svcTaken, hactive]
      rfl
    · rw [hinactive, if_neg Bool.false_ne_true, s.svcTaken.closeSession_of_closed hclosed, svcTaken, hinactive]
      rfl
    · rw [hinactive, if_neg Bool.false_ne_true, closeSession_opened (s := s.svcTaken) hn, svcTaken, hinactive]
      rfl

/-! ## A channel's levels -/

namespace State

variable {s : State} {c : Channel}

theorem addCount_of_room (h : (s.capture.channels.get c).pending < 255) : s.addCount c =
    s.setCaptureChannel c { s.capture.channels.get c with pending := (s.capture.channels.get c).pending + 1 } := by
  rw [addCount]
  exact if_pos h

theorem addCount_of_full (h : 255 ≤ (s.capture.channels.get c).pending) : s.addCount c =
    (s.setCaptureChannel c
      { s.capture.channels.get c with lost := min 65535 ((s.capture.channels.get c).lost + 1) }).raise .lostEdges
        (.channels (channelBit c)) := by
  rw [addCount]
  exact if_neg (Nat.not_lt.2 h)

theorem setCaptureChannel_twice (k k' : CaptureChannel) : (s.setCaptureChannel c k).setCaptureChannel c k' =
    s.setCaptureChannel c k' := by
  simp only [setCaptureChannel, setCapture, PerChannel.set_set]

theorem setCaptureChannel_get (k : CaptureChannel) : (s.setCaptureChannel c k).capture.channels.get c = k :=
  PerChannel.get_set_self ..

/-- The level a change must end at to be counted (R3), as the model writes it. -/
theorem activeLevel_eq (p : Polarity) : activeLevel p = countedLevel p := by cases p <;> rfl

theorem changeFiltered_uncounted (h : ¬ ((s.config.live.channels.get c).mode = .edge ∧
    (s.capture.channels.get c).sync = countedLevel (s.config.live.channels.get c).polarity)) : s.changeFiltered c =
    s.setCaptureChannel c { s.capture.channels.get c with filtered := (s.capture.channels.get c).sync, run := 0 } := by
  rw [← activeLevel_eq] at h
  rw [changeFiltered]
  exact if_neg h

theorem changeFiltered_counted (h : (s.config.live.channels.get c).mode = .edge ∧
    (s.capture.channels.get c).sync = countedLevel (s.config.live.channels.get c).polarity) : s.changeFiltered c =
    (s.setCaptureChannel c
      { s.capture.channels.get c with filtered := (s.capture.channels.get c).sync, run := 0 }).addCount c := by
  rw [← activeLevel_eq] at h
  rw [changeFiltered]
  exact if_pos h

/-- A counted change of the filtered level below the maximum (R7, R10). -/
theorem changeFiltered_adds (h : (s.config.live.channels.get c).mode = .edge ∧
    (s.capture.channels.get c).sync = countedLevel (s.config.live.channels.get c).polarity)
    (hroom : (s.capture.channels.get c).pending < 255) : s.changeFiltered c =
    s.setCaptureChannel c
      { s.capture.channels.get c with
        filtered := (s.capture.channels.get c).sync, run := 0, pending := (s.capture.channels.get c).pending + 1 } := by
  rw [changeFiltered_counted h, addCount_of_room (by rw [setCaptureChannel_get]; exact hroom), setCaptureChannel_twice,
    setCaptureChannel_get]

/-- A counted change of the filtered level at the maximum (R10). -/
theorem changeFiltered_loses (h : (s.config.live.channels.get c).mode = .edge ∧
    (s.capture.channels.get c).sync = countedLevel (s.config.live.channels.get c).polarity)
    (hfull : 255 ≤ (s.capture.channels.get c).pending) : s.changeFiltered c =
    (s.setCaptureChannel c
      { s.capture.channels.get c with
        filtered := (s.capture.channels.get c).sync, run := 0
        lost := min 65535 ((s.capture.channels.get c).lost + 1) }).raise .lostEdges (.channels (channelBit c)) := by
  rw [changeFiltered_counted h, addCount_of_full (by rw [setCaptureChannel_get]; exact hfull), setCaptureChannel_twice,
    setCaptureChannel_get]

theorem filterDue_iff : s.filterDue c = true ↔ s.capture.state = .live ∧ s.tickTakes c := by
  simp only [filterDue, tickTakes, liveChannel, Bool.and_eq_true, beq_iff_eq, bne_iff_ne, decide_eq_true_iff,
    Nat.one_le_iff_ne_zero, and_assoc]

theorem exec_filteredLevelChange (halive : s.alive = true) (hlive : s.capture.state = .live) (ht : s.tickTakes c) :
    exec (.filteredLevelChange c) s = .next (s.changeFiltered c) :=
  congrArg Host.Outcome.next (if_pos (by rw [halive, filterDue_iff.2 ⟨hlive, ht⟩]; rfl))

theorem exec_channelLevelChange (h : s.supply.powered = true) (l : Level) :
    exec (.synchronisedLevelChange (.channel c) l) s = .next (s.syncChannel c l) :=
  congrArg Host.Outcome.next (if_pos h)

/-- A channel with its synchronised level changed (R4). -/
def synchronised (s : State) (c : Channel) (l : Level) : State :=
  s.setCaptureChannel c { s.capture.channels.get c with sync := l }

theorem syncChannel_eq {l : Level} (h : (s.capture.channels.get c).sync ≠ l) : s.syncChannel c l =
    if s.capture.state = .live ∧ (s.config.live.channels.get c).filter = 0 ∧ (s.capture.channels.get c).filtered ≠ l then
      (s.synchronised c l).changeFiltered c
    else s.synchronised c l := by
  have hfiltered : ((s.synchronised c l).capture.channels.get c).filtered = (s.capture.channels.get c).filtered := by
    rw [synchronised, setCaptureChannel_get]
  rw [← hfiltered, syncChannel, if_neg h]
  rfl

end State

/-- Settles O34: the filtered level follows at once with filter 0, or at the tick its run completes, and counts an edge. -/
theorem channelLevelChangesCountAnEdge : Obligations.ChannelLevelChangesCountAnEdge := by
  unfold Obligations.ChannelLevelChangesCountAnEdge
  refine ⟨fun s c l hpowered => ?_, fun s c halive hlive htakes => ?_⟩
  · dsimp only
    rw [exec_channelLevelChange hpowered]
    have hchannel : (s.synchronised c l).capture.channels.get c = { s.capture.channels.get c with sync := l } :=
      setCaptureChannel_get _
    refine ⟨fun hsame => ?_, fun hnew hstays => ?_, fun hnew hfollows hno => ?_, fun hnew hfollows hcounts hroom => ?_,
      fun hnew hfollows hcounts hfull => ?_⟩
    · rw [syncChannel, if_pos hsame]
    · rw [syncChannel_eq hnew, if_neg hstays]
      rfl
    · rw [syncChannel_eq hnew, if_pos hfollows, changeFiltered_uncounted (by rw [hchannel]; exact hno), hchannel, synchronised,
        setCaptureChannel_twice]
      rfl
    · rw [syncChannel_eq hnew, if_pos hfollows,
        changeFiltered_adds (by rw [hchannel]; exact hcounts) (by rw [hchannel]; exact hroom), hchannel, synchronised,
        setCaptureChannel_twice]
      rfl
    · rw [syncChannel_eq hnew, if_pos hfollows,
        changeFiltered_loses (by rw [hchannel]; exact hcounts) (by rw [hchannel]; exact hfull), hchannel, synchronised,
        setCaptureChannel_twice]
      rfl
  · dsimp only
    rw [exec_filteredLevelChange halive hlive htakes]
    refine ⟨fun hno => ?_, fun hcounts hroom => ?_, fun hcounts hfull => ?_⟩
    · rw [changeFiltered_uncounted hno]
      rfl
    · rw [changeFiltered_adds hcounts hroom]
      rfl
    · rw [changeFiltered_loses hcounts hfull]
      rfl

end Sys2Proof.Machine
end

section

-- One theorem at a time, as in the tests: many proofs elaborated at once each hold a thread's stack.
set_option Elab.async false

/-! The ends of host jobs' operations and the apply swap (O47). -/

namespace Sys2Proof.Machine

open State

/-! ## Deliveries and the jobs that hold the array -/

/-- A job stands in the host job table, whose entries are distinct. -/
structure HoldsJob (s : State) (j : HostJob) : Prop where
  slots : (s.link.jobs.map HostJob.slot).Nodup
  mem : j ∈ s.link.jobs

/-- What drains and causes leave of the store, the interval timer, the link and the array host jobs (R51, R52). -/
structure Delivers (s t : State) : Prop where
  store : t.store = s.store
  interval : t.sched.interval = s.sched.interval
  link : s.store.exhausted = false → t.link = s.link
  job : ∀ j, isArrayJob j = true → HoldsJob s j → HoldsJob t j

namespace Delivers

variable {s t u : State}

theorem of_link (hstore : t.store = s.store) (hinterval : t.sched.interval = s.sched.interval) (hlink : t.link = s.link) :
    Delivers s t where
  store := hstore
  interval := hinterval
  link _ := hlink
  job _ _ h := ⟨hlink ▸ h.slots, hlink ▸ h.mem⟩

theorem refl (s : State) : Delivers s s := .of_link rfl rfl rfl

theorem trans (h : Delivers s t) (h' : Delivers t u) : Delivers s u where
  store := h'.store.trans h.store
  interval := h'.interval.trans h.interval
  link hs := (h'.link (by rw [h.store, hs])).trans (h.link hs)
  job j hj hs := h'.job j hj (h.job j hj hs)

theorem foldl {α : Type} {f : State → α → State} (hf : ∀ x a, Delivers x (f x a)) (l : List α) (s : State) :
    Delivers s (l.foldl f s) :=
  List.foldlRecOn (motive := Delivers s) l f (.refl s) fun x hx a _ => hx.trans (hf x a)

end Delivers

namespace HoldsJob

variable {s : State} {j : HostJob} {w : JobSlot}

/-- Another entry's end leaves a job where it is (R164). -/
theorem endJob (h : HoldsJob s j) {x : HostJob} (hx : s.job? w = some x) (hne : j.slot ≠ w) (a : Answer) :
    HoldsJob (s.endJob w a) j := by
  rw [endJob_of_slots h.slots hx]
  obtain ⟨-, -, hjobs, -⟩ := (s.setLink
    { s.link with
      jobs := s.link.jobs.filter (fun x => x.slot ≠ w)
      replies := s.link.replies ++
        [{ kind := jobReplyKind x.state, tag := x.tag, status := a.status.code, payload := a.payload }] }).startTransmitter_queues
  constructor
  · rw [hjobs]
    exact h.slots.sublist (List.filter_sublist.map _)
  · rw [hjobs]
    exact List.mem_filter.2 ⟨h.mem, decide_eq_true hne⟩

/-- Another entry's new state leaves a job where it is (R164). -/
theorem setJobState (h : HoldsJob s j) (hne : j.slot ≠ w) (x : JobState) : HoldsJob (s.setJobState w x) j where
  slots := by
    have hslots : (s.setJobState w x).link.jobs.map HostJob.slot = s.link.jobs.map HostJob.slot := by
      refine (List.map_map ..).trans (List.map_congr_left fun y _ => ?_)
      simp only [Function.comp_apply]
      split <;> rfl
    rw [hslots]
    exact h.slots
  mem := List.mem_map.2 ⟨j, h.mem, if_neg hne⟩

/-- A waiter that is told ends or goes on; the array host jobs are not waiters (R52, R53). -/
theorem tell (h : HoldsJob s j) (hj : isArrayJob j = true) (c : Channel) (o : Resolution) (w : JobSlot) :
    HoldsJob (s.tell c o w) j := by
  have hother : ∀ {x : HostJob}, s.job? w = some x → isArrayJob x = false → j.slot ≠ w := by
    rintro x hx hwaits rfl
    rw [job?_of_slots h.slots h.mem] at hx
    rw [← Option.some.inj hx, hj] at hwaits
    cases hwaits
  cases hx : s.job? w with
  | none =>
    have hsame : s.tell c o w = s := by simp only [State.tell, hx, Option.map_none]
    rwa [hsame]
  | some x =>
    obtain ⟨slot, tag, state⟩ := x
    cases state with
    | commitWait m f =>
      rw [tell_commitWait hx rfl]
      split
      · exact h.endJob hx (hother hx rfl) _
      · exact h.setJobState (hother hx rfl) _
    | loadWait d =>
      rw [tell_loadWait hx rfl]
      exact h.endJob hx (hother hx rfl) _
    | apply image p =>
      have hsame : s.tell c o w = s := by simp only [State.tell, hx, Option.map_some]
      rwa [hsame]
    | readSlot k n =>
      have hsame : s.tell c o w = s := by simp only [State.tell, hx, Option.map_some]
      rwa [hsame]

theorem tellAll (hj : isArrayJob j = true) (c : Channel) (o : Resolution) (ws : List JobSlot) (h : HoldsJob s j) :
    HoldsJob (s.tellAll c o ws) j :=
  List.foldlRecOn (motive := fun x => HoldsJob x j) ws _ h fun _ hx w _ => hx.tell hj c o w

end HoldsJob

namespace State

variable {s : State}

/-! ## Causes, drains and switches -/

theorem deliverCause_delivers (c : Channel) (k : Cause) (w : Option JobSlot) : Delivers s (s.deliverCause c k w) := by
  cases hstore : s.store.exhausted with
  | false =>
    rw [s.deliverCause_of_not_exhausted hstore]
    exact .of_link rfl rfl rfl
  | true =>
    have htold := tellEach_changes s.dropQueue (mergeCause s.sched.queue c k w) .exhausted
    rw [s.deliverCause_of_exhausted hstore]
    refine ⟨htold.store_eq, by rw [htold.sched_eq]; rfl, fun hroom => ?_, fun j hj h => ?_⟩
    · rw [hstore] at hroom
      cases hroom
    · exact List.foldlRecOn (motive := fun x => HoldsJob x j) _ _ ⟨h.slots, h.mem⟩ fun x hx e _ => hx.tellAll hj _ _ _

theorem deliverAll_delivers (cs : List Channel) (k : Cause) (w : Option JobSlot) : Delivers s (s.deliverAll cs k w) :=
  .foldl (fun _ _ => deliverCause_delivers ..) cs s

theorem drain_delivers (c : Channel) : Delivers s (s.drain c) := by
  have hcounts := drainCounts_changes s c
  have hdrained : Delivers s (s.drainCounts c) := .of_link hcounts.store_eq (by rw [hcounts.sched_eq]) hcounts.link_eq
  unfold drain thresholdStep
  refine hdrained.trans ?_
  split
  · exact deliverCause_delivers ..
  · exact .refl _

theorem drainAll_delivers : Delivers s s.drainAll := .foldl (fun _ _ => drain_delivers _) _ s

theorem tariffSwitch_delivers (x : Tariff) : Delivers s (s.tariffSwitch x) := by
  by_cases h : x = s.accum.tariff
  · rw [s.tariffSwitch_active h]
    exact .refl s
  · have hswitched : Delivers s (s.switched x) :=
      drainAll_delivers.trans (.of_link (setAccum_store ..) (congrArg _ (setAccum_sched ..)) (setAccum_link ..))
    rw [tariffSwitch_eq s h]
    split
    · exact hswitched.trans (deliverAll_delivers ..)
    · exact hswitched

/-- A tariff switch with every count taken changes no channel and no total (R28). -/
theorem tariffSwitch_of_drained (hp : ∀ c, (s.capture.channels.get c).pending = 0)
    (hd : ∀ c, (s.accum.accounts.get c).delta ≤ 2 ^ 48 - 1) (x : Tariff) (c : Channel) :
    (s.tariffSwitch x).capture.channels.get c = s.capture.channels.get c ∧
      (s.tariffSwitch x).accum.accounts.get c = s.accum.accounts.get c := by
  by_cases h : x = s.accum.tariff
  · rw [s.tariffSwitch_active h]
    exact ⟨rfl, rfl⟩
  · have hrest := tariffSwitch_switched h
    obtain ⟨hchannel, haccount⟩ := s.drainAll_drained.of_all c
    rw [hrest.capture_eq, hrest.accum_eq, switched_capture, switched_accum, hchannel, haccount, drainCounts_account, drainedAccount,
      hp c, Account.drained_zero (hd c), ← hp c]
    exact ⟨rfl, rfl⟩

/-! ## The apply swap -/

/-- The image live, and the channels whose settings changed re-initialised (R15, R33, R110). -/
def loaded (s : State) (image : Configuration) (p : ApplyProgress) (old : Configuration) : State :=
  (s.setConfig { s.config with live := image, generation := p.generation, liveSector := some p.target }).recapture old

/-- The swap's drains done under the old settings and the image live (R33, R110). -/
def recaptured (s : State) (image : Configuration) (p : ApplyProgress) : State := s.drainAll.loaded image p s.config.live

theorem applySwap_eq (image : Configuration) (p : ApplyProgress) : s.applySwap image p =
    (((((s.recaptured image p).resourceTariff s.config.live).retimeInterval s.config.live).retimeIdle
      s.config.live).followStaged) := rfl

variable {image : Configuration} {p : ApplyProgress}

theorem captureDiffers_iff {a b : ChannelConfig} : captureDiffers a b = true ↔
    ¬ (a.mode = b.mode ∧ a.polarity = b.polarity ∧ a.filter = b.filter) := by
  simp only [captureDiffers, Bool.or_eq_true, bne_iff_ne, ne_eq, not_and_or, or_assoc]

theorem loaded_changes (old : Configuration) : Changes [.capture, .config] s (s.loaded image p old) :=
  (recapture_changes _ old).after (by decide) ((setConfig_changes ..).mono (by decide))

theorem loaded_capture (old : Configuration) : (s.loaded image p old).capture =
    { s.capture with
      channels := PerChannel.ofFn fun c =>
        if captureDiffers (old.channels.get c) (image.channels.get c) then
          CaptureChannel.reinitialised (s.capture.channels.get c)
        else s.capture.channels.get c } := rfl

theorem loaded_config (old : Configuration) : (s.loaded image p old).config =
    { s.config with live := image, generation := p.generation, liveSector := some p.target } := rfl

theorem recaptured_channel (c : Channel) : (s.recaptured image p).capture.channels.get c =
    if (s.config.live.channels.get c).mode = (image.channels.get c).mode ∧
        (s.config.live.channels.get c).polarity = (image.channels.get c).polarity ∧
        (s.config.live.channels.get c).filter = (image.channels.get c).filter then
      { s.capture.channels.get c with pending := 0 }
    else { s.capture.channels.get c with pending := 0, filtered := (s.capture.channels.get c).sync, run := 0 } := by
  have hget : (s.recaptured image p).capture.channels.get c =
      if captureDiffers (s.config.live.channels.get c) (image.channels.get c) then
        CaptureChannel.reinitialised (s.drainAll.capture.channels.get c)
      else s.drainAll.capture.channels.get c := by
    rw [recaptured, loaded_capture, PerChannel.get_ofFn]
  rw [hget, (s.drainAll_drained.of_all c).1]
  split
  · next h => exact (if_neg (captureDiffers_iff.1 h)).symm
  · next h => exact (if_pos (not_not.1 (mt captureDiffers_iff.2 h))).symm

theorem recaptured_pending (c : Channel) : ((s.recaptured image p).capture.channels.get c).pending = 0 := by
  rw [recaptured_channel]
  split <;> rfl

theorem recaptured_account (c : Channel) :
    (s.recaptured image p).accum.accounts.get c = (s.drainCounts c).accum.accounts.get c := by
  rw [recaptured, (loaded_changes _).accum_eq, (s.drainAll_drained.of_all c).2]

theorem recaptured_delta (c : Channel) : ((s.recaptured image p).accum.accounts.get c).delta ≤ 2 ^ 48 - 1 := by
  rw [recaptured_account, drainCounts_account]
  exact Nat.min_le_left ..

theorem recaptured_delivers : Delivers s (s.recaptured image p) :=
  drainAll_delivers.trans (.of_link (loaded_changes _).store_eq (congrArg _ (loaded_changes _).sched_eq) (loaded_changes _).link_eq)

/-- The swap with the tariff source followed, before the timers and the staged configuration (R32, R110). -/
def resourced (s : State) (image : Configuration) (p : ApplyProgress) : State :=
  (s.recaptured image p).resourceTariff s.config.live

theorem recaptured_changes : Changes [.capture, .config] s.drainAll (s.recaptured image p) := loaded_changes _

theorem resourced_config : (s.resourced image p).config =
    { s.config with live := image, generation := p.generation, liveSector := some p.target } := by
  rw [resourced, (resourceTariff_changes ..).config_eq, recaptured, loaded_config, (drainAll_changes s).config_eq]

theorem resourced_service : (s.resourced image p).service = s.service := by
  rw [resourced, (resourceTariff_changes ..).service_eq, recaptured_changes.service_eq, (drainAll_changes s).service_eq]

theorem resourceTariff_delivers (old : Configuration) : Delivers s (s.resourceTariff old) := by
  unfold resourceTariff followLines
  split
  · split
    · exact tariffSwitch_delivers _
    · exact .refl s
  · exact .refl s

theorem resourced_delivers : Delivers s (s.resourced image p) := recaptured_delivers.trans (resourceTariff_delivers _)

/-- The source's change leaves the channels and totals that the swap's drains made (R32, R33). -/
theorem resourced_channel (c : Channel) :
    (s.resourced image p).capture.channels.get c = (s.recaptured image p).capture.channels.get c ∧
      (s.resourced image p).accum.accounts.get c = (s.recaptured image p).accum.accounts.get c := by
  unfold resourced resourceTariff followLines
  split
  · split
    · exact tariffSwitch_of_drained recaptured_pending recaptured_delta _ c
    · exact ⟨rfl, rfl⟩
  · exact ⟨rfl, rfl⟩

theorem resourced_captureState : (s.resourced image p).capture.state = s.capture.state := by
  have hrecaptured : (s.recaptured image p).capture.state = s.capture.state := by
    rw [recaptured, loaded_capture, s.drainAll_drained.state]
  rw [← hrecaptured]
  unfold resourced resourceTariff
  split
  · exact followLines_captureState _
  · rfl

/-- A change of the source from HOST to LINES follows the lines (R32). -/
theorem resourced_tariff : (s.resourced image p).accum.tariff =
    if s.config.live.globals.tariffSource = .host ∧ image.globals.tariffSource = .lines then s.accum.tsel.filtered
    else s.accum.tariff := by
  have haccum : (s.recaptured image p).accum = s.drainAll.accum := recaptured_changes.accum_eq
  have hsource : (s.recaptured image p).config.live.globals.tariffSource = image.globals.tariffSource := by
    rw [recaptured, loaded_config]
  by_cases hhost : s.config.live.globals.tariffSource = .host
  · rw [resourced, resourceTariff, if_pos hhost]
    by_cases hlines : image.globals.tariffSource = .lines
    · rw [if_pos ⟨hhost, hlines⟩, followLines_tariff (hsource.trans hlines), haccum, s.drainAll_drained.tsel]
    · rw [if_neg fun h => hlines h.2, followLines, if_neg (by rw [hsource]; exact hlines), haccum, s.drainAll_drained.tariff]
  · rw [resourced, resourceTariff, if_neg hhost, if_neg fun h => hhost h.1, haccum, s.drainAll_drained.tariff]

theorem applySwap_resourced : Changes [.sched, .service, .config] (s.resourced image p) (s.applySwap image p) :=
  (followStaged_changes _).after (by decide) ((retimeIdle_changes _ _).after (by decide)
    ((retimeInterval_changes _ _).mono (by decide)))

/-- The swap with the interval timer restarted if its setting changed (R42, R110). -/
def retimed (s : State) (image : Configuration) (p : ApplyProgress) : State :=
  (s.resourced image p).retimeInterval s.config.live

theorem retimed_config : (s.retimed image p).config =
    { s.config with live := image, generation := p.generation, liveSector := some p.target } := by
  rw [retimed, (retimeInterval_changes ..).config_eq, resourced_config]

theorem retimed_service : (s.retimed image p).service = s.service := by
  rw [retimed, (retimeInterval_changes ..).service_eq, resourced_service]

theorem applySwap_interval : (s.applySwap image p).sched.interval =
    if s.config.live.globals.commitInterval = image.globals.commitInterval then s.sched.interval else 0 := by
  have hsched : (s.applySwap image p).sched = (s.retimed image p).sched := by
    rw [applySwap_eq, (followStaged_changes _).sched_eq, (retimeIdle_changes ..).sched_eq]
    rfl
  rw [hsched, retimed, retimeInterval, resourced_config]
  split
  · exact resourced_delivers.interval
  · rfl

theorem retimeIdle_session (old : Configuration) : (s.retimeIdle old).service.session =
    match s.service.session with
    | .closed => .closed
    | .opened n => if old.globals.idleTimeout = s.config.live.globals.idleTimeout then .opened n else .opened 0 := by
  unfold retimeIdle restartIdle
  cases hsession : s.service.session with
  | closed =>
    split <;> exact hsession
  | opened n =>
    split
    · exact hsession
    · rfl

theorem applySwap_session : (s.applySwap image p).service.session =
    match s.service.session with
    | .closed => .closed
    | .opened n => if s.config.live.globals.idleTimeout = image.globals.idleTimeout then .opened n else .opened 0 := by
  have hservice : (s.applySwap image p).service = ((s.retimed image p).retimeIdle s.config.live).service := by
    rw [applySwap_eq, (followStaged_changes _).service_eq]
    rfl
  rw [hservice, retimeIdle_session, retimed_service, retimed_config]

theorem followStaged_config : s.followStaged.config =
    { s.config with staged := if s.service.session = .closed then s.config.live else s.config.staged } := by
  unfold followStaged sessionOpen
  cases s.service.session with
  | closed => rfl
  | opened n => rfl

theorem applySwap_config : (s.applySwap image p).config =
    { s.config with
      live := image, generation := p.generation, liveSector := some p.target
      staged := if s.service.session = .closed then image else s.config.staged } := by
  have hidle : ((s.retimed image p).retimeIdle s.config.live).config = (s.retimed image p).config :=
    (retimeIdle_changes ..).config_eq
  have hclosed : ((s.retimed image p).retimeIdle s.config.live).service.session = .closed ↔ s.service.session = .closed := by
    rw [retimeIdle_session, retimed_service]
    cases s.service.session with
    | closed => exact Iff.rfl
    | opened n =>
      dsimp only
      split <;> simp
  have hlast : s.applySwap image p = ((s.retimed image p).retimeIdle s.config.live).followStaged := rfl
  rw [hlast, followStaged_config, hidle, retimed_config]
  simp only [hclosed]

theorem applySwap_delivers_link : s.store.exhausted = false → (s.applySwap image p).link = s.link := fun h => by
  rw [applySwap_resourced.link_eq, resourced_delivers.link h]

theorem applySwap_holdsJob {j : HostJob} (hj : isArrayJob j = true) (h : HoldsJob s j) : HoldsJob (s.applySwap image p) j := by
  have hjob := (resourced_delivers (image := image) (p := p)).job j hj h
  exact ⟨by rw [applySwap_resourced.link_eq]; exact hjob.slots, by rw [applySwap_resourced.link_eq]; exact hjob.mem⟩

/-! ## The ends of the operations -/

variable {op : Operation} {j : HostJob}

theorem applyJob?_of_apply (hj : s.arrayJob? = some j) (hstate : j.state = .apply image (some p)) :
    s.applyJob? = some (j.slot, image, p) := by
  obtain ⟨slot, tag, state⟩ := j
  obtain rfl : state = .apply image (some p) := hstate
  simp only [applyJob?, hj]

theorem applyJob?_of_none (hj : s.arrayJob? = none) : s.applyJob? = none := by
  simp only [applyJob?, hj]

theorem arrayJob?_isArrayJob (hj : s.arrayJob? = some j) : isArrayJob j = true := by
  exact List.find?_some hj

theorem arrayJob?_of_link {t : State} (h : t.link = s.link) : t.arrayJob? = s.arrayJob? := by
  rw [arrayJob?, arrayJob?, h]

theorem configEraseEnd_pass (hj : s.arrayJob? = some j) (hstate : j.state = .apply image (some p)) :
    s.configEraseEnd .pass = s.setJobState j.slot (.apply image (some { p with step := .program 3 })) := by
  simp only [configEraseEnd, applyJob?_of_apply hj hstate]

theorem configEraseEnd_fail (hj : s.arrayJob? = some j) (hstate : j.state = .apply image (some p)) :
    s.configEraseEnd .fail = s.applyFails j.slot p := by
  simp only [configEraseEnd, applyJob?_of_apply hj hstate]

theorem imageProgramEnd_fail (hj : s.arrayJob? = some j) (hstate : j.state = .apply image (some p)) :
    s.imageProgramEnd .fail = s.applyFails j.slot p := by
  simp only [imageProgramEnd, applyJob?_of_apply hj hstate]

theorem imageProgramEnd_next {k : Nat} (hj : s.arrayJob? = some j) (hstate : j.state = .apply image (some p))
    (hk : p.step = .program (k + 1)) :
    s.imageProgramEnd .pass = s.setJobState j.slot (.apply image (some { p with step := .program k })) := by
  simp only [imageProgramEnd, applyJob?_of_apply hj hstate, hk]

theorem imageProgramEnd_last (hj : s.arrayJob? = some j) (hstate : j.state = .apply image (some p)) (hk : p.step = .program 0) :
    s.imageProgramEnd .pass = (s.applySwap image p).endJob j.slot (Answer.ok (leBytes 4 p.generation)) := by
  simp only [imageProgramEnd, applyJob?_of_apply hj hstate, hk]

theorem slotReadEnd_of_read {k : Sector} {n : Nat} (hj : s.arrayJob? = some j) (hstate : j.state = .readSlot k n)
    (bs : List Byte) : s.slotReadEnd bs = s.endJob j.slot (Answer.ok bs) := by
  obtain ⟨slot, tag, state⟩ := j
  obtain rfl : state = .readSlot k n := hstate
  simp only [slotReadEnd, hj]

theorem slotReadEnd_of_none (hj : s.arrayJob? = none) (bs : List Byte) : s.slotReadEnd bs = s := by
  simp only [slotReadEnd, hj]

/-- A job that has ended, with its reply at the tail of the reply queue (R164, R165). -/
def jobEnded (s : State) (w : JobSlot) (kind tag status : Byte) (payload : List Byte) : State :=
  (s.setLink
    { s.link with
      jobs := s.link.jobs.filter (fun x => x.slot ≠ w)
      replies := s.link.replies ++ [{ kind := kind, tag := tag, status := status, payload := payload }] }).startTransmitter

theorem endJob_jobEnded (h : HoldsJob s j) (a : Answer) :
    s.endJob j.slot a = s.jobEnded j.slot (jobReplyKind j.state) j.tag a.status.code a.payload :=
  endJob_of_slots h.slots (job?_of_slots h.slots h.mem) a

theorem applyFails_eq (h : HoldsJob s j) (hstate : j.state = .apply image (some p)) : s.applyFails j.slot p =
    (s.raise .storeFault (.sector (match p.target with
      | .a => 0
      | .b => 1))).jobEnded j.slot 0xA5 j.tag 0x07 [] := by
  have hraised : HoldsJob (s.storeFault p.target.sector) j := ⟨h.slots, h.mem⟩
  rw [applyFails, endJob_jobEnded hraised, hstate]
  cases p.target <;> rfl

theorem endProgram_pass_changes : Changes [.array, .store] s (s.endProgram op .pass) :=
  (setOp_changes ..).after (by decide) ((setArray_changes s _).mono (by decide))

theorem exec_configEraseEnd {o : EraseOutcome} (hop : s.store.op = some op) (hx : op.task = .configErase)
    (ho : o = .aborted ↔ op.aborting = true) :
    exec (.configEraseEnd o) s = .next ((s.endErase op o).configEraseEnd o).arbiter :=
  congrArg Host.Outcome.next (atEraseEnd_of_op hop hx ho _)

theorem exec_imageProgramEnd (hop : s.store.op = some op) (hx : op.task = .imageProgram) (o : ProgramOutcome) :
    exec (.imageProgramEnd o) s = .next ((s.endProgram op o).imageProgramEnd o).arbiter :=
  congrArg Host.Outcome.next (atEnd_of_op hop hx _)

theorem exec_slotReadEnd (hop : s.store.op = some op) (hx : op.task = .slotRead) :
    exec .slotReadEnd s = .next ((s.setOp none).slotReadEnd (s.slotBytes op.sector op.slot)).arbiter :=
  congrArg Host.Outcome.next (atEnd_of_op hop hx _)

end State

/-- Settles O47: each end acts on the array host job at work, the last slot's with the swap, or on nothing. -/
theorem hostJobOperationEnds : Obligations.HostJobOperationEnds := by
  unfold Obligations.HostJobOperationEnds
  intro s op hlaw hop
  dsimp only
  have herase : ∀ o, (s.endErase op o).link = s.link := fun o => (endErase_changes s op o).link_eq
  have hprogram : ∀ o, (s.endProgram op o).link = s.link := fun o => (endProgram_kept o).link_eq
  have hholds : ∀ {u : State} {j : HostJob}, u.link = s.link → s.arrayJob? = some j → HoldsJob u j := fun hu hj =>
    ⟨hu ▸ hlaw.slots, hu ▸ arrayJob?_mem hj⟩
  refine ⟨fun j image p hj hstate => ⟨fun hx hgoes => ⟨?_, ?_⟩, fun hx => ⟨?_, fun k hk => ?_, fun hk => ?_⟩⟩,
    fun j k n hj hstate hx => ?_, fun hj => ⟨fun hx o ho => ?_, fun hx o => ?_, fun hx => ?_⟩⟩
  · have hju := (arrayJob?_of_link (herase .pass)).trans hj
    rw [exec_configEraseEnd hop hx (by simp [hgoes]), configEraseEnd_pass hju hstate, setJobState, herase]
    rfl
  · have hju := (arrayJob?_of_link (herase .fail)).trans hj
    rw [exec_configEraseEnd hop hx (by simp [hgoes]), configEraseEnd_fail hju hstate,
      applyFails_eq (hholds (herase .fail) hj) hstate]
    rfl
  · have hju := (arrayJob?_of_link (hprogram .fail)).trans hj
    rw [exec_imageProgramEnd hop hx, imageProgramEnd_fail hju hstate, applyFails_eq (hholds (hprogram .fail) hj) hstate]
    rfl
  · have hju := (arrayJob?_of_link (hprogram .pass)).trans hj
    rw [exec_imageProgramEnd hop hx, imageProgramEnd_next hju hstate hk, setJobState, hprogram]
    rfl
  · have hju := (arrayJob?_of_link (hprogram .pass)).trans hj
    have hswap := applySwap_changes (s.endProgram op .pass) image p
    refine ⟨(s.endProgram op .pass).applySwap image p, ?_, ?_, ?_, fun c => ?_, ?_, ?_, ?_, ?_, ?_, ?_, ?_, ?_⟩
    · rw [exec_imageProgramEnd hop hx, imageProgramEnd_last hju hstate hk,
        endJob_jobEnded (applySwap_holdsJob (arrayJob?_isArrayJob hj) (hholds (hprogram .pass) hj)), hstate]
      rfl
    · exact applySwap_config
    · rw [applySwap_resourced.capture_eq, resourced_captureState]
      rfl
    · rw [applySwap_resourced.capture_eq, applySwap_resourced.accum_eq, (resourced_channel c).1, (resourced_channel c).2,
        recaptured_channel, recaptured_account, drainCounts_account, drainCounts_account]
      exact ⟨rfl, rfl⟩
    · rw [applySwap_resourced.accum_eq, resourced_tariff]
      rfl
    · intro hsame
      rw [applySwap_interval]
      exact if_pos hsame
    · intro hnew
      rw [applySwap_interval]
      exact if_neg hnew
    · exact applySwap_session
    · intro hroom
      rw [applySwap_delivers_link (by exact hroom), hprogram]
    · rw [hswap.array_eq]
      rfl
    · exact (endProgram_pass_changes.mono (by decide)).trans (hswap.mono (by decide))
    · rw [hswap.store_eq]
      rfl
  · have hju : (s.setOp none).arrayJob? = some j := hj
    rw [exec_slotReadEnd hop hx, slotReadEnd_of_read hju hstate, endJob_jobEnded (s := s.setOp none) (hholds rfl hj), hstate]
    rfl
  · have hju := (arrayJob?_of_link (herase o)).trans hj
    rw [exec_configEraseEnd hop hx ho, configEraseEnd, applyJob?_of_none hju]
  · have hju := (arrayJob?_of_link (hprogram o)).trans hj
    rw [exec_imageProgramEnd hop hx, imageProgramEnd, applyJob?_of_none hju]
  · rw [exec_slotReadEnd hop hx, slotReadEnd_of_none (by exact hj)]
    rfl

end Sys2Proof.Machine
end

section

-- One theorem at a time, as in the tests: many proofs elaborated at once each hold a thread's stack.
set_option Elab.async false

/-! What drains, the executor and the arbiter leave standing: the requests still queued, the receiver, and the filters of the
lines. -/

namespace Sys2Proof.Machine

open State

/-- The timebase, the request queue, the receiver with its gap timer and the filters of the tariff select lines and of SVC stand as
before. -/
structure LinesStand (s t : State) : Prop where
  timebase : t.timebase = s.timebase
  requests : t.link.requests = s.link.requests
  receiver : t.link.receiver = s.link.receiver
  gap : t.link.gap = s.link.gap
  tsel : t.accum.tsel = s.accum.tsel
  svcFiltered : t.service.svcFiltered = s.service.svcFiltered
  svcRun : t.service.svcRun = s.service.svcRun

namespace LinesStand

variable {bs : List Block} {s t u : State}

theorem refl (s : State) : LinesStand s s := ⟨rfl, rfl, rfl, rfl, rfl, rfl, rfl⟩

theorem trans (h : LinesStand s t) (h' : LinesStand t u) : LinesStand s u where
  timebase := h'.timebase.trans h.timebase
  requests := h'.requests.trans h.requests
  receiver := h'.receiver.trans h.receiver
  gap := h'.gap.trans h.gap
  tsel := h'.tsel.trans h.tsel
  svcFiltered := h'.svcFiltered.trans h.svcFiltered
  svcRun := h'.svcRun.trans h.svcRun

/-- A further step, named first, so that the state before it is known from it. -/
theorem after (h' : LinesStand t u) (h : LinesStand s t) : LinesStand s u := h.trans h'

theorem ite {p : Prop} [Decidable p] (h : LinesStand s t) (h' : LinesStand s u) : LinesStand s (if p then t else u) := by
  split <;> assumption

theorem foldl {α : Type} {f : State → α → State} (hf : ∀ x a, LinesStand x (f x a)) (l : List α) (s : State) :
    LinesStand s (l.foldl f s) :=
  List.foldlRecOn l f (refl s) fun x hx a _ => hx.trans (hf x a)

/-- What changes neither the timebase, the link, the accumulation unit nor the session's block. -/
theorem of_changes (h : Changes bs s t)
    (hb : Block.link ∉ bs ∧ Block.accum ∉ bs ∧ Block.service ∉ bs ∧ Block.timebase ∉ bs := by decide) : LinesStand s t where
  timebase := by rw [h.timebase_eq hb.2.2.2]
  requests := by rw [h.link_eq hb.1]
  receiver := by rw [h.link_eq hb.1]
  gap := by rw [h.link_eq hb.1]
  tsel := by rw [h.accum_eq hb.2.1]
  svcFiltered := by rw [h.service_eq hb.2.2.1]
  svcRun := by rw [h.service_eq hb.2.2.1]

/-- What changes of the link only jobs, replies, credits or the transmitter. -/
theorem of_link (h : Changes [.link] s t) (hrequests : t.link.requests = s.link.requests)
    (hreceiver : t.link.receiver = s.link.receiver) (hgap : t.link.gap = s.link.gap) : LinesStand s t where
  timebase := h.timebase_eq
  requests := hrequests
  receiver := hreceiver
  gap := hgap
  tsel := by rw [h.accum_eq]
  svcFiltered := by rw [h.service_eq]
  svcRun := by rw [h.service_eq]

/-- What changes the accumulation unit but not its tariff select filter. -/
theorem of_accum (h : Changes bs s t) (htsel : t.accum.tsel = s.accum.tsel)
    (hb : Block.link ∉ bs ∧ Block.service ∉ bs ∧ Block.timebase ∉ bs := by decide) : LinesStand s t where
  timebase := by rw [h.timebase_eq hb.2.2]
  requests := by rw [h.link_eq hb.1]
  receiver := by rw [h.link_eq hb.1]
  gap := by rw [h.link_eq hb.1]
  tsel := htsel
  svcFiltered := by rw [h.service_eq hb.2.1]
  svcRun := by rw [h.service_eq hb.2.1]

/-- What changes the session but not the SVC filter. -/
theorem of_service (h : Changes bs s t) (hfiltered : t.service.svcFiltered = s.service.svcFiltered)
    (hrun : t.service.svcRun = s.service.svcRun) (hb : Block.link ∉ bs ∧ Block.accum ∉ bs ∧ Block.timebase ∉ bs := by decide) :
    LinesStand s t where
  timebase := by rw [h.timebase_eq hb.2.2]
  requests := by rw [h.link_eq hb.1]
  receiver := by rw [h.link_eq hb.1]
  gap := by rw [h.link_eq hb.1]
  tsel := by rw [h.accum_eq hb.2.1]
  svcFiltered := hfiltered
  svcRun := hrun

end LinesStand

namespace State

variable (s : State)

/-! ## Replies and waiters -/

theorem startTransmitter_lines : LinesStand s s.startTransmitter :=
  .ite (.of_link (setLink_changes ..) rfl rfl rfl) (.refl s)

theorem answer_lines (kind tag : Byte) (a : Answer) : LinesStand s (s.answer kind tag a) :=
  (startTransmitter_lines _).after (.of_link (setLink_changes ..) rfl rfl rfl)

theorem setJobState_lines (w : JobSlot) (j : JobState) : LinesStand s (s.setJobState w j) :=
  .of_link (setJobState_changes ..) rfl rfl rfl

theorem acceptJob_lines (w : JobSlot) (tag : Byte) (j : JobState) : LinesStand s (s.acceptJob w tag j) :=
  .of_link (acceptJob_changes ..) rfl rfl rfl

theorem endJob_lines (w : JobSlot) (a : Answer) : LinesStand s (s.endJob w a) := by
  unfold endJob
  split
  · exact .refl s
  · exact (answer_lines ..).after (.of_link (setLink_changes ..) rfl rfl rfl)

theorem tell_lines (c : Channel) (o : Resolution) (w : JobSlot) : LinesStand s (s.tell c o w) := by
  unfold tell
  dsimp only
  split
  · split
    · exact endJob_lines ..
    · exact setJobState_lines ..
  · exact endJob_lines ..
  · exact .refl s

theorem tellAll_lines (c : Channel) (o : Resolution) (ws : List JobSlot) : LinesStand s (s.tellAll c o ws) :=
  .foldl (fun x w => tell_lines x c o w) ws s

/-! ## Causes, drains and tariff switches -/

theorem deliverCause_lines (c : Channel) (k : Cause) (w : Option JobSlot) : LinesStand s (s.deliverCause c k w) := by
  cases hstore : s.store.exhausted with
  | false =>
    rw [s.deliverCause_of_not_exhausted hstore]
    exact .of_changes (setQueue_changes ..)
  | true =>
    rw [s.deliverCause_of_exhausted hstore]
    have hdrop : LinesStand s s.dropQueue := .of_changes (setSched_changes ..)
    exact hdrop.trans
      (.foldl (f := fun x (e : QueueEntry) => x.tellAll e.channel .exhausted e.waiters) (fun x e => x.tellAll_lines ..) _ _)

theorem deliverAll_lines (cs : List Channel) (k : Cause) (w : Option JobSlot) : LinesStand s (s.deliverAll cs k w) :=
  .foldl (fun x c => x.deliverCause_lines c k w) cs s

theorem drainCounts_lines (c : Channel) : LinesStand s (s.drainCounts c) :=
  .of_accum (drainCounts_changes s c) (s.drainCounts_drained c).tsel

theorem drain_lines (c : Channel) : LinesStand s (s.drain c) := by
  unfold drain thresholdStep
  refine (s.drainCounts_lines c).trans ?_
  split
  · exact deliverCause_lines ..
  · exact .refl _

theorem drainAll_lines : LinesStand s s.drainAll := .foldl (fun x c => x.drain_lines c) _ s

theorem setTariff_lines (x : Tariff) : LinesStand s (s.setAccum { s.accum with tariff := x }) :=
  .of_accum (setAccum_changes ..) rfl

theorem tariffSwitch_lines (x : Tariff) : LinesStand s (s.tariffSwitch x) := by
  by_cases h : x = s.accum.tariff
  · rw [s.tariffSwitch_active h]
    exact .refl s
  · rw [s.tariffSwitch_eq h]
    have hswitched : LinesStand s (s.switched x) := s.drainAll_lines.trans (setTariff_lines _ x)
    split
    · exact hswitched.trans (deliverAll_lines ..)
    · exact hswitched

theorem followLines_lines : LinesStand s s.followLines := .ite (tariffSwitch_lines ..) (.refl s)

theorem loadTotals_lines (c : Channel) (b : PerTariff Bucket) : LinesStand s (s.loadTotals c b) := by
  unfold loadTotals
  dsimp only
  refine (LinesStand.of_changes (setCaptureChannel_changes ..)).after (.after ?_ (s.drainCounts_lines c))
  exact .of_accum (setAccount_changes ..) rfl

theorem loadEffect_lines (c : Channel) (b : PerTariff Bucket) (w : JobSlot) : LinesStand s (s.loadEffect c b w) :=
  (deliverCause_lines ..).after (s.loadTotals_lines c b)

theorem closeSession_lines (x : Option CloseReason) : LinesStand s (s.closeSession x) := by
  refine .of_service (closeSession_changes s x) ?_ ?_
  all_goals
    unfold closeSession
    split
    · rfl
    · cases x <;> rfl

/-! ## The arbiter in RUN -/

theorem commitFails_lines (j : CommitJob) (fault : Option RingSector) : LinesStand s (s.commitFails j fault) := by
  unfold commitFails
  dsimp only
  have hfree : LinesStand s (s.setHolder none) := .of_changes (setHolder_changes ..)
  refine LinesStand.ite ((LinesStand.of_changes (setPower_changes ..)).after ((tellAll_lines ..).after ?_))
    ((tellAll_lines ..).after ?_)
  all_goals
    cases fault with
    | some r => exact (LinesStand.of_changes (storeFault_changes ..)).after hfree
    | none => exact ((LinesStand.of_changes (setFree_changes ..)).after (.of_changes (raise_changes ..))).after hfree

theorem jobFails_lines (h : Hold) : LinesStand s (s.jobFails h) := by
  unfold jobFails
  split
  · exact commitFails_lines ..
  · exact .of_changes (copyFails_changes ..)
  · exact .of_changes (copyFails_changes ..)

theorem openHead_lines (h : Hold) : LinesStand s (s.openHead h) := by
  rw [openHead_eq]
  have hfill : LinesStand s s.fillFullHead := .of_changes (fillFullHead_changes s)
  split
  · exact (jobFails_lines ..).after hfill
  · exact ((LinesStand.of_changes (beginOp_changes ..)).after (.of_changes (setStore_changes ..))).after hfill

theorem takeSlot_lines (h : Hold) : LinesStand s (s.takeSlot h) := by
  unfold takeSlot
  split
  · exact openHead_lines ..
  · split
    · split
      · exact .of_changes (beginRecord_changes ..)
      · exact openHead_lines ..
    · exact openHead_lines ..

theorem nextAttempt_lines (h : Hold) : LinesStand s (s.nextAttempt h) := .ite (jobFails_lines ..) (takeSlot_lines ..)

theorem startCommit_lines (e : QueueEntry) : LinesStand s (s.startCommit e) := by
  unfold startCommit
  dsimp only
  refine (s.drainCounts_lines e.channel).trans ?_
  split
  · exact (nextAttempt_lines ..).after (.of_changes (setHolder_changes ..))
  · exact tellAll_lines ..

theorem beginApplyStep_lines (w : JobSlot) (image : Configuration) (p : ApplyProgress) :
    LinesStand s (s.beginApplyStep w image p) := by
  unfold beginApplyStep
  dsimp only
  split <;> exact (LinesStand.of_changes (beginOp_changes ..)).after (setJobState_lines ..)

theorem jobStep_lines (j : HostJob) : LinesStand s (s.jobStep j) := by
  unfold jobStep
  split
  · exact .of_changes (beginOp_changes ..)
  · exact beginApplyStep_lines ..
  · exact .ite (endJob_lines ..) (beginApplyStep_lines ..)
  · exact .refl s

theorem compactIfReady_lines : LinesStand s s.compactIfReady := .of_changes (compactIfReady_changes s)

theorem takeHead_lines : LinesStand s s.takeHead := by
  unfold takeHead
  split
  · exact compactIfReady_lines s
  · exact .ite ((startCommit_lines ..).after (.of_changes (setSched_changes ..)))
      ((compactIfReady_lines _).after (.of_changes (setSched_changes ..)))

theorem chooseRun_lines : LinesStand s s.chooseRun := by
  unfold chooseRun
  split
  · exact .of_changes (engineStep_changes s)
  · split
    · exact jobStep_lines ..
    · exact .ite (.refl s) (takeHead_lines s)

theorem arbitrateRun_lines (n : Nat) : LinesStand s (arbitrateRun n s) := by
  induction n generalizing s with
  | zero => exact .refl s
  | succ n ih => exact .ite (s.chooseRun_lines.trans (ih _)) (.refl s)

variable {s}

theorem arbiter_lines (h : s.power.device ≠ .flush ∨ s.store.op ≠ none) : LinesStand s s.arbiter := by
  cases hdevice : s.power.device with
  | run =>
    rw [s.arbiter_of_run hdevice]
    exact arbitrateRun_lines ..
  | flush =>
    obtain ⟨op, hop⟩ := Option.ne_none_iff_exists'.1 (h.resolve_left (not_not.2 hdevice))
    rw [s.arbiter_of_op hop]
    exact .refl s
  | start | retain =>
    have hsame : s.arbiter = s := by simp only [arbiter, hdevice]
    rw [hsame]
    exact .refl s

/-! ## The executor -/

variable (s)

theorem refuse_lines (k : RequestKind) (tag : Byte) (x : Status) : LinesStand s (s.refuse k tag x) := answer_lines ..

theorem reply_lines (k : RequestKind) (tag : Byte) (a : Answer) : LinesStand s (s.reply k tag a) := answer_lines ..

/-- The arbiter after a part of a request's execution that leaves the power monitor alone. -/
theorem then_arbiter_lines {bs : List Block} {t : State} (run : s.power.device = .run) (h : LinesStand s t)
    (hc : Changes bs s t) (hb : Block.power ∉ bs := by decide) : LinesStand s t.arbiter :=
  h.trans (arbiter_lines (.inl (by rw [hc.power_eq hb, run]; decide)))

theorem doReadSlot_lines (run : s.power.device = .run) (tag : Byte) (p : List Byte) : LinesStand s (s.doReadSlot tag p) := by
  unfold doReadSlot
  split
  · split
    · exact s.then_arbiter_lines run (acceptJob_lines ..) (acceptJob_changes ..)
    · exact refuse_lines ..
  · exact refuse_lines ..

theorem doSetTariff_lines (run : s.power.device = .run) (tag : Byte) (p : List Byte) : LinesStand s (s.doSetTariff tag p) := by
  unfold doSetTariff
  split
  · exact refuse_lines ..
  · exact .ite (refuse_lines ..) (s.then_arbiter_lines run ((reply_lines ..).after (tariffSwitch_lines ..))
      ((reply_changes ..).after (by decide) (tariffSwitch_changes ..)))

theorem doCommit_lines (run : s.power.device = .run) (tag : Byte) (p : List Byte) : LinesStand s (s.doCommit tag p) := by
  unfold doCommit
  dsimp only
  refine .ite (refuse_lines ..) ?_
  split
  · exact refuse_lines ..
  · exact s.then_arbiter_lines run ((deliverAll_lines ..).after (acceptJob_lines ..))
      ((acceptJob_changes ..).mono (by decide) |>.trans (deliverAll_changes ..))

theorem doLoadTotals_lines (run : s.power.device = .run) (tag : Byte) (p : List Byte) :
    LinesStand s (s.doLoadTotals tag p) := by
  unfold doLoadTotals
  refine .ite ?_ (refuse_lines ..)
  split
  · exact refuse_lines ..
  · split
    · exact refuse_lines ..
    · exact s.then_arbiter_lines run ((loadEffect_lines ..).after (acceptJob_lines ..))
        ((acceptJob_changes ..).mono (by decide) |>.trans (loadEffect_changes ..))

theorem doApplyConfig_lines (run : s.power.device = .run) (tag : Byte) : LinesStand s (s.doApplyConfig tag) := by
  unfold doApplyConfig
  refine .ite (.ite (refuse_lines ..) ?_) (refuse_lines ..)
  split
  · exact refuse_lines ..
  · exact s.then_arbiter_lines run (acceptJob_lines ..) (acceptJob_changes ..)

theorem doOpenService_lines (tag : Byte) : LinesStand s (s.doOpenService tag) := by
  have hopened : LinesStand s (s.setService { s.service with session := .opened 0 }) := .of_service (setService_changes ..) rfl rfl
  unfold doOpenService
  split
  · exact (reply_lines ..).after hopened
  · exact .ite ((reply_lines ..).after (.after (.of_changes (setConfig_changes ..)) hopened)) (refuse_lines ..)

theorem setStaged_lines (c : Configuration) : LinesStand s (s.setStaged c) := .of_changes (setStaged_changes ..)

theorem doStageChannel_lines (tag : Byte) (p : List Byte) : LinesStand s (s.doStageChannel tag p) := by
  unfold doStageChannel
  refine .ite ?_ (refuse_lines ..)
  split
  · exact (reply_lines ..).after (setStaged_lines ..)
  · exact refuse_lines ..

theorem doStageGlobals_lines (tag : Byte) (p : List Byte) : LinesStand s (s.doStageGlobals tag p) := by
  unfold doStageGlobals
  refine .ite ?_ (refuse_lines ..)
  split
  · exact (reply_lines ..).after (setStaged_lines ..)
  · exact refuse_lines ..

theorem doFetchNotice_lines (tag : Byte) (p : List Byte) : LinesStand s (s.doFetchNotice tag p) := by
  unfold doFetchNotice
  split
  · exact refuse_lines ..
  · split
    · exact refuse_lines ..
    · exact (reply_lines ..).after (.of_changes (takeNotice_changes ..))

/-- Requests that report from the state, and those of the notice unit (R172 to R176, R180, R181, R184). -/
theorem doReport_lines (tag : Byte) (p : List Byte) : LinesStand s (s.doReadChannel tag p) ∧
    LinesStand s (s.doReadCommitted tag p) ∧ LinesStand s (s.doGetStoreMap tag p) ∧ LinesStand s (s.doReadConfig tag p) := by
  refine ⟨?_, ?_, ?_, ?_⟩
  · unfold doReadChannel
    split
    · exact reply_lines ..
    · exact refuse_lines ..
  · unfold doReadCommitted
    split
    · exact reply_lines ..
    · exact refuse_lines ..
  · exact .ite (reply_lines ..) (refuse_lines ..)
  · unfold doReadConfig
    dsimp only
    generalize (if field p 0 1 = 0 then some s.config.live else if field p 0 1 = 1 then some s.config.staged else none).bind
      (fun c => configItemBytes c (field p 1 1)) = item
    cases item with
    | some bs => exact reply_lines ..
    | none => exact refuse_lines ..

theorem perform_lines (run : s.power.device = .run) (k : RequestKind) (tag : Byte) (p : List Byte) :
    LinesStand s (s.perform k tag p) := by
  obtain ⟨hchannel, hcommitted, hmap, hconfig⟩ := s.doReport_lines tag p
  cases k with
  | ping | getStatus | restart => exact reply_lines ..
  | readChannel => exact hchannel
  | readCommitted => exact hcommitted
  | getStoreMap => exact hmap
  | readConfig => exact hconfig
  | readSlot => exact s.doReadSlot_lines run tag p
  | setTariff => exact s.doSetTariff_lines run tag p
  | commit => exact s.doCommit_lines run tag p
  | fetchNotice => exact s.doFetchNotice_lines tag p
  | ackNotice | setNoticeMask => exact (reply_lines ..).after (.of_changes (setNotices_changes ..))
  | openService => exact s.doOpenService_lines tag
  | closeService => exact (reply_lines ..).after (closeSession_lines ..)
  | stageChannel => exact s.doStageChannel_lines tag p
  | stageGlobals => exact s.doStageGlobals_lines tag p
  | applyConfig => exact s.doApplyConfig_lines run tag
  | discardStaged => exact .ite ((reply_lines ..).after (setStaged_lines ..)) (refuse_lines ..)
  | loadTotals => exact s.doLoadTotals_lines run tag p

variable {s}

/-- With a request waiting in RUN, the executor takes it and then leaves the lines and the requests behind it (R162, R163). -/
theorem executeHead_of_request {r : Request} {rest : List Request} (run : s.power.device = .run)
    (hr : s.link.requests = r :: rest) : LinesStand s.popRequest s.executeHead := by
  simp only [executeHead, run, hr]
  split
  · exact .ite (perform_lines _ (by exact run) ..) (refuse_lines ..)
  · exact answer_lines ..

theorem executeHead_of_none (h : s.power.device ≠ .run ∨ s.link.requests = []) : s.executeHead = s := by
  unfold executeHead
  split
  · next r rest hrun hr =>
    obtain h | h := h
    · exact absurd hrun h
    · rw [h] at hr
      cases hr
  · rfl

/-- The executor changes the request queue at most, of what the lines and their timers hold. -/
theorem executeHead_lines : s.executeHead.timebase = s.timebase ∧ s.executeHead.link.receiver = s.link.receiver ∧ s.executeHead.link.gap = s.link.gap ∧
    s.executeHead.accum.tsel = s.accum.tsel ∧ s.executeHead.service.svcFiltered = s.service.svcFiltered ∧
    s.executeHead.service.svcRun = s.service.svcRun := by
  by_cases run : s.power.device = .run
  · cases hr : s.link.requests with
    | nil =>
      rw [executeHead_of_none (.inr hr)]
      exact ⟨rfl, rfl, rfl, rfl, rfl, rfl⟩
    | cons r rest =>
      have h := executeHead_of_request run hr
      exact ⟨h.timebase, h.receiver, h.gap, h.tsel, h.svcFiltered, h.svcRun⟩
  · rw [executeHead_of_none (.inl run)]
    exact ⟨rfl, rfl, rfl, rfl, rfl, rfl⟩

end State

end Sys2Proof.Machine
end

section

-- One theorem at a time, as in the tests: many proofs elaborated at once each hold a thread's stack.
set_option Elab.async false

/-! A tick's timers and filters (O30). -/

namespace Sys2Proof.Machine

open State

namespace State

variable {s : State}

/-! ## The second counter -/

theorem secondEffects_lines : LinesStand s s.secondEffects := by
  have hretry : LinesStand s s.clearRetryWait := .of_changes (setEngine_changes ..)
  have hinterval : ∀ u : State, LinesStand u u.intervalSecond := fun u =>
    .ite ((deliverAll_lines ..).after (.of_changes (setSched_changes ..))) (.ite (.of_changes (setSched_changes ..)) (.refl u))
  have hidle : ∀ u : State, LinesStand u u.idleSecond := fun u => by
    refine .ite (closeSession_lines ..) ?_
    split
    · exact .refl u
    · exact .of_service (setService_changes ..) rfl rfl
  exact (hretry.trans (hinterval _)).trans (hidle _)

theorem closeSession_svcSync (x : Option CloseReason) : (s.closeSession x).service.svcSync = s.service.svcSync := by
  unfold closeSession
  split
  · rfl
  · cases x <;> rfl

theorem secondEffects_svcSync : s.secondEffects.service.svcSync = s.service.svcSync := by
  have hidle : ∀ u : State, u.idleSecond.service.svcSync = u.service.svcSync := fun u => by
    unfold idleSecond
    split
    · exact closeSession_svcSync _
    · split <;> rfl
  rw [secondEffects, hidle, (intervalSecond_changes _).service_eq]
  rfl

/-- The second counter's share of a tick leaves the line filters, the gap timer and the accumulation unit to the others (R1). -/
theorem secondTick_lines : s.secondTick.link.receiver = s.link.receiver ∧ s.secondTick.link.gap = s.link.gap ∧
    s.secondTick.service.svcFiltered = s.service.svcFiltered ∧ s.secondTick.service.svcRun = s.service.svcRun ∧
    s.secondTick.service.svcSync = s.service.svcSync := by
  unfold secondTick
  split
  · have h := secondEffects_lines (s := s.setTimebase { s.timebase with second := 0 })
    exact ⟨h.receiver, h.gap, h.svcFiltered, h.svcRun, secondEffects_svcSync⟩
  · exact ⟨rfl, rfl, rfl, rfl, rfl⟩

theorem secondTick_second : s.secondTick.timebase.second =
    if s.timebase.second + 1 = 1000 then 0 else s.timebase.second + 1 := by
  have hdue : s.secondDue = true ↔ s.timebase.second + 1 = 1000 := by
    rw [secondDue_iff]
    omega
  unfold secondTick
  by_cases h : s.timebase.second + 1 = 1000
  · rw [if_pos (hdue.2 h), if_pos h, takeSecond, (secondEffects_changes _).timebase_eq]
    rfl
  · rw [if_neg (mt hdue.1 h), if_neg h]
    rfl

/-! ## The line filters -/

/-- The SVC filter at a tick: its level and its run (R112). -/
theorem svcTick_filter :
    (s.service.svcSync = s.service.svcFiltered →
      s.svcTick.service.svcFiltered = s.service.svcFiltered ∧ s.svcTick.service.svcRun = 0) ∧
    (s.service.svcSync ≠ s.service.svcFiltered → s.service.svcRun + 1 ≠ 20 →
      s.svcTick.service.svcFiltered = s.service.svcFiltered ∧ s.svcTick.service.svcRun = s.service.svcRun + 1) ∧
    (s.service.svcSync ≠ s.service.svcFiltered → s.service.svcRun + 1 = 20 →
      s.svcTick.service.svcFiltered = s.service.svcSync ∧ s.svcTick.service.svcRun = 0) := by
  unfold svcTick Config.lineFilterTicks
  refine ⟨fun h => ?_, fun h hrun => ?_, fun h hrun => ?_⟩
  · rw [if_pos h]
    exact ⟨rfl, rfl⟩
  · rw [if_neg h, if_neg hrun]
    exact ⟨rfl, rfl⟩
  · rw [if_neg h, if_pos hrun, svcChange_eq]
    split
    · exact ⟨rfl, rfl⟩
    · have hclosed := closeSession_lines s.svcTaken (some .line)
      exact ⟨hclosed.svcFiltered, hclosed.svcRun⟩

/-- What a tick makes of the tariff select filter (R30). -/
def tselTicked (f : TselFilter) : TselFilter :=
  if tselValue f = f.filtered then { f with run := 0 }
  else if tselValue f = f.candidate then
    if f.run + 1 = 20 then { f with filtered := f.candidate, run := 0 } else { f with run := f.run + 1 }
  else { f with candidate := tselValue f, run := 1 }

theorem tselChange_lines : LinesStand
    (s.setAccum { s.accum with tsel := { s.accum.tsel with filtered := s.accum.tsel.candidate, run := 0 } }) s.tselChange :=
  .ite (followLines_lines _) (.refl _)

/-- The tariff select filter's share of a tick leaves the timebase, the receiver and the SVC filter (R30). -/
theorem tselTick_lines : LinesStand (s.setAccum { s.accum with tsel := tselTicked s.accum.tsel }) s.tselTick := by
  unfold tselTick tselTicked Config.lineFilterTicks
  dsimp only
  by_cases hsame : tselValue s.accum.tsel = s.accum.tsel.filtered
  · rw [if_pos hsame, if_pos hsame]
    exact .refl _
  · rw [if_neg hsame, if_neg hsame]
    by_cases hcandidate : tselValue s.accum.tsel = s.accum.tsel.candidate
    · rw [if_pos hcandidate, if_pos hcandidate]
      by_cases hrun : s.accum.tsel.run + 1 = 20
      · rw [if_pos hrun, if_pos hrun]
        exact tselChange_lines
      · rw [if_neg hrun, if_neg hrun]
        exact .refl _
    · rw [if_neg hcandidate, if_neg hcandidate]
      exact .refl _

/-! ## The gap timer -/

theorem discard_receiver (x : DiscardReason) :
    (s.discard x).link.receiver = s.link.receiver ∧ (s.discard x).link.gap = s.link.gap := by
  unfold discard
  split <;> exact ⟨rfl, rfl⟩

theorem gapTick_gap (halive : s.alive = true) : (s.link.gap = none → s.gapTick.link.gap = none) ∧
    (∀ n, s.link.gap = some n → n + 1 < 5 → s.gapTick.link.gap = some (n + 1)) ∧
    (∀ n, s.link.gap = some n → 5 ≤ n + 1 → s.gapTick.link.gap = none ∧ s.gapTick.link.receiver = .hunt) := by
  refine ⟨fun h => ?_, fun n h hn => ?_, fun n h hn => ?_⟩
  · have hdue : ¬ s.gapDue = true := by simp [gapDue, h]
    rw [gapTick, if_neg hdue]
    exact congrArg (Option.map (· + 1)) h
  · have hdue : ¬ s.gapDue = true := by simp [gapDue, h, Config.gapTicks]; omega
    rw [gapTick, if_neg hdue]
    exact congrArg (Option.map (· + 1)) h
  · have hdue : s.gapDue = true := by simp [gapDue, h, Config.gapTicks, halive]; omega
    rw [gapTick, if_pos hdue]
    obtain ⟨hreceiver, hgap⟩ := discard_receiver (s := s.setReceiver .hunt none) .gap
    exact ⟨hgap, hreceiver⟩

/-! ## The whole tick -/

/-- The tick's second counter and SVC filter (R1, R112). -/
def tickSvc (s : State) : State := s.secondTick.svcTick

theorem tickSvc_accum : s.tickSvc.accum = s.accum := by
  rw [tickSvc, (svcTick_changes _).accum_eq, (secondTick_changes _).accum_eq]

/-- The tick up to its capture unit's share. -/
def tickCaptured (s : State) : State := s.tickSvc.tselTick.captureTick

theorem tickPrelude_eq : s.tickPrelude = s.tickCaptured.gapTick.drainRound := rfl

theorem gapTick_stands : s.gapTick.timebase = s.timebase ∧ s.gapTick.service = s.service ∧ s.gapTick.accum = s.accum :=
  ⟨(gapTick_changes s).timebase_eq, (gapTick_changes s).service_eq, (gapTick_changes s).accum_eq⟩

theorem drainRound_lines : LinesStand s s.drainRound := .ite s.drainAll_lines (.refl s)

theorem captureTick_lines : LinesStand s s.captureTick := .of_changes (captureTick_changes s)

/-- What a tick's receivers leave of the lines and their timers before the executor looks (R1, R30, R112, R157). -/
theorem tickPrelude_lines : s.tickPrelude.timebase.second = s.secondTick.timebase.second ∧
    s.tickPrelude.service.svcFiltered = s.tickSvc.service.svcFiltered ∧
    s.tickPrelude.service.svcRun = s.tickSvc.service.svcRun ∧
    s.tickPrelude.accum.tsel = tselTicked s.accum.tsel ∧
    s.tickPrelude.link.gap = s.tickCaptured.gapTick.link.gap ∧
    s.tickPrelude.link.receiver = s.tickCaptured.gapTick.link.receiver := by
  have hround := drainRound_lines (s := s.tickCaptured.gapTick)
  obtain ⟨htime, hservice, haccum⟩ := gapTick_stands (s := s.tickCaptured)
  have hcaptured := (tselTick_lines (s := s.tickSvc)).trans captureTick_lines
  rw [tickPrelude_eq]
  refine ⟨?_, ?_, ?_, ?_, hround.gap, hround.receiver⟩
  · rw [hround.timebase, htime, tickCaptured, hcaptured.timebase, setAccum_timebase, tickSvc, (svcTick_changes _).timebase_eq]
  · rw [hround.svcFiltered, hservice, tickCaptured, hcaptured.svcFiltered, setAccum_service]
  · rw [hround.svcRun, hservice, tickCaptured, hcaptured.svcRun, setAccum_service]
  · rw [hround.tsel, haccum, tickCaptured, hcaptured.tsel, setAccum_accum, tickSvc_accum]

theorem tickCaptured_gap : s.tickCaptured.link.gap = s.link.gap := by
  have hcaptured := (tselTick_lines (s := s.tickSvc)).trans captureTick_lines
  rw [tickCaptured, hcaptured.gap, setAccum_link, tickSvc, (svcTick_changes _).link_eq]
  exact secondTick_lines.2.1

theorem tickCaptured_alive (halive : s.alive = true) : s.tickCaptured.alive = true := by
  have hsupply : s.tickCaptured.supply = s.supply := by
    rw [tickCaptured, (captureTick_changes _).supply_eq, (tselTick_changes _).supply_eq, tickSvc, (svcTick_changes _).supply_eq,
      (secondTick_changes _).supply_eq]
  rw [alive, hsupply]
  exact halive

theorem tickPrelude_store : s.tickPrelude.store = s.store := by
  rw [tickPrelude_eq, (drainRound_changes _).store_eq, (gapTick_changes _).store_eq, tickCaptured,
    (captureTick_changes _).store_eq, (tselTick_changes _).store_eq, tickSvc, (svcTick_changes _).store_eq,
    (secondTick_changes _).store_eq]

theorem exec_tick (halive : s.alive = true) : exec .tick s = .next s.tickPrelude.executeHead.resumeTick.arbiter :=
  congrArg Host.Outcome.next (if_pos halive)

theorem executeHead_power : Steady s.tickPrelude s.tickPrelude.executeHead ∧
    s.tickPrelude.executeHead.power.device = s.power.device ∧ s.tickPrelude.executeHead.power.resume = s.power.resume := by
  have h := s.tickPrelude.executeHead_steady
  refine ⟨h, ?_, ?_⟩
  · rw [h.device, tickPrelude_power]
  · rw [h.resume, tickPrelude_power]

/-- The resume timer's share of a tick at which it is not due (R129). -/
theorem resumeTick_of_early (h : s.resumeDue = false) : s.resumeTick =
    if s.power.device = .retain then s.setPower { s.power with resume := s.power.resume.map (· + 1) } else s := by
  rw [resumeTick, h]
  rfl

theorem resumeTick_lines (h : s.resumeDue = false) : LinesStand s s.resumeTick := by
  rw [resumeTick_of_early h]
  exact .ite (.of_changes (setPower_changes ..)) (.refl s)

theorem resumeTick_device (h : s.resumeDue = false) : s.resumeTick.power.device = s.power.device := by
  rw [resumeTick_of_early h]
  split <;> rfl

theorem arbiter_steady (h : s.power.device ≠ .flush ∨ s.store.op ≠ none) : Steady s s.arbiter := by
  cases hdevice : s.power.device with
  | run => exact s.arbiter_run_steady hdevice
  | flush =>
    obtain ⟨op, hop⟩ := Option.ne_none_iff_exists'.1 (h.resolve_left (not_not.2 hdevice))
    rw [s.arbiter_of_op hop]
    exact .refl s
  | start | retain =>
    have hsame : s.arbiter = s := by simp only [arbiter, hdevice]
    rw [hsame]
    exact .refl s

end State

/-- Settles O30: each timer and filter takes its own share of the tick, and what follows leaves it. -/
theorem tickRunsTheTickTimersAndTheExecutor : Obligations.TickRunsTheTickTimersAndTheExecutor := by
  unfold Obligations.TickRunsTheTickTimersAndTheExecutor
  refine ⟨fun s halive harray hearly => ?_, fun s r rest halive hrun hr => ?_⟩
  · obtain ⟨hsteady, hdevice, hresume⟩ := executeHead_power (s := s)
    have hearly' : s.tickPrelude.executeHead.resumeDue = false := by
      rw [resumeDue, hdevice, hresume]
      exact hearly
    have harray' : s.tickPrelude.executeHead.resumeTick.power.device ≠ .flush ∨
        s.tickPrelude.executeHead.resumeTick.store.op ≠ none := by
      rw [resumeTick_device hearly', hdevice]
      by_cases hflush : s.power.device = .flush
      · refine .inr ?_
        rw [resumeTick_of_early hearly', if_neg (by rw [hdevice, hflush]; decide),
          executeHead_of_none (.inl (by rw [tickPrelude_power, hflush]; decide)), tickPrelude_store]
        exact harray.resolve_left (not_not.2 hflush)
      · exact .inl hflush
    have hlast := (resumeTick_lines hearly').trans (arbiter_lines harray')
    have hpower := arbiter_steady harray'
    obtain ⟨etime, ereceiver, egap, etsel, efiltered, erun⟩ := executeHead_lines (s := s.tickPrelude)
    obtain ⟨ptime, pfiltered, prun, ptsel, pgap, preceiver⟩ := tickPrelude_lines (s := s)
    obtain ⟨-, -, sfiltered, srun, ssync⟩ := secondTick_lines (s := s)
    obtain ⟨vsame, vcount, vtaken⟩ := svcTick_filter (s := s.secondTick)
    obtain ⟨gnone, gcount, gdue⟩ := gapTick_gap (tickCaptured_alive halive)
    rw [sfiltered, ssync] at vsame vcount vtaken
    rw [srun] at vcount vtaken
    rw [tickCaptured_gap] at gnone gcount gdue
    refine ⟨_, exec_tick halive, ?_, ?_, ?_, ?_, ?_, ?_, ?_, ?_, ?_, ?_⟩
    · rw [hpower.device, resumeTick_device hearly', hdevice]
    · rw [hlast.timebase, etime, ptime, secondTick_second]
    · rw [hlast.svcFiltered, hlast.svcRun, efiltered, erun, pfiltered, prun]
      exact vsame
    · rw [hlast.svcFiltered, hlast.svcRun, efiltered, erun, pfiltered, prun]
      exact vcount
    · rw [hlast.svcFiltered, hlast.svcRun, efiltered, erun, pfiltered, prun]
      exact vtaken
    · dsimp only
      rw [hlast.tsel, etsel, ptsel, tselTicked]
      refine ⟨fun h => if_pos h, fun h hc hn => ?_, fun h hc => ?_, fun h hc hn => ?_⟩
      · rw [if_neg h, if_pos hc, if_neg hn]
      · rw [if_neg h, if_neg hc]
      · rw [if_neg h, if_pos hc, if_pos hn, hc]
    · rw [hlast.gap, egap, pgap]
      exact gnone
    · rw [hlast.gap, egap, pgap]
      exact gcount
    · rw [hlast.gap, hlast.receiver, egap, pgap, ereceiver, preceiver]
      exact gdue
    · intro n hretain hn
      rw [hpower.resume, resumeTick_of_early hearly', if_pos (hdevice.trans hretain)]
      exact (congrArg (Option.map (· + 1)) (hresume.trans hn))
  · have hhead := executeHead_of_request (s := s.tickPrelude) (by rw [tickPrelude_power, hrun])
      (by rw [tickPrelude_requests, hr])
    have hdevice : s.tickPrelude.executeHead.power.device = .run := by rw [executeHead_power.2.1, hrun]
    have hearly : s.tickPrelude.executeHead.resumeDue = false := by
      rw [resumeDue, hdevice]
      rfl
    have hlast := (resumeTick_lines hearly).trans
      (arbiter_lines (.inl (by rw [resumeTick_device hearly, hdevice]; decide)))
    refine ⟨_, exec_tick halive, ?_⟩
    rw [hlast.requests, hhead.requests]
    have htail : s.tickPrelude.popRequest.link.requests = s.tickPrelude.link.requests.tail := rfl
    rw [htail, tickPrelude_requests, hr]
    rfl

end Sys2Proof.Machine
end

section

-- One theorem at a time, as in the tests: many proofs elaborated at once each hold a thread's stack.
set_option Elab.async false

/-! A tick at one channel: its filter, its count, and the drain round that takes the count (O29). -/

namespace Sys2Proof.Machine

open State

/-- What a tick makes of a channel: its filter's share, and a count added, or lost at 255 (R5, R7, R8, R10). -/
structure ChannelTicked (s : State) (c : Channel) (k : CaptureChannel) : Prop where
  filters : TickFilters s c k
  added : s.tickCounts c k.filtered → (s.capture.channels.get c).pending < 255 →
    k.pending = (s.capture.channels.get c).pending + 1 ∧ k.lost = (s.capture.channels.get c).lost
  lost : s.tickCounts c k.filtered → 255 ≤ (s.capture.channels.get c).pending →
    k.pending = (s.capture.channels.get c).pending ∧ k.lost = min 65535 ((s.capture.channels.get c).lost + 1)
  kept : ¬ s.tickCounts c k.filtered →
    k.pending = (s.capture.channels.get c).pending ∧ k.lost = (s.capture.channels.get c).lost

/-- A channel with one count more, or one lost at 255 (R10). -/
def CaptureChannel.countedUp (k : CaptureChannel) : CaptureChannel :=
  if k.pending < 255 then { k with pending := k.pending + 1 } else { k with lost := min 65535 (k.lost + 1) }

/-- At most one channel's capture state changes. -/
structure OnlyChannel (c : Channel) (s t : State) : Prop where
  changes : Changes [.capture, .notices] s t
  state : t.capture.state = s.capture.state
  others : ∀ d, d ≠ c → t.capture.channels.get d = s.capture.channels.get d

namespace OnlyChannel

variable {c : Channel} {s t u : State}

theorem refl (c : Channel) (s : State) : OnlyChannel c s s := ⟨.refl _ _, rfl, fun _ _ => rfl⟩

theorem trans (h : OnlyChannel c s t) (h' : OnlyChannel c t u) : OnlyChannel c s u where
  changes := h.changes.trans h'.changes
  state := h'.state.trans h.state
  others d hd := (h'.others d hd).trans (h.others d hd)

theorem ite {p : Prop} [Decidable p] (h : OnlyChannel c s t) (h' : OnlyChannel c s u) : OnlyChannel c s (if p then t else u) := by
  split <;> assumption

theorem set (s : State) (c : Channel) (k : CaptureChannel) : OnlyChannel c s (s.setCaptureChannel c k) where
  changes := (setCaptureChannel_changes ..).mono (by decide)
  state := rfl
  others d hd := by
    have hget : (s.setCaptureChannel c k).capture.channels.get d = (s.capture.channels.set c k).get d := rfl
    rw [hget, PerChannel.get_set, if_neg hd]

theorem raise (h : OnlyChannel c s t) (k : NoticeKind) (d : NoticeDetail) : OnlyChannel c s (t.raise k d) where
  changes := h.changes.trans ((raise_changes ..).mono (by decide))
  state := h.state
  others := h.others

end OnlyChannel

namespace State

variable {s : State} {c : Channel}

theorem addCount_only (s : State) (c : Channel) : OnlyChannel c s (s.addCount c) :=
  .ite (.set ..) (.raise (.set ..) _ _)

theorem changeFiltered_only (s : State) (c : Channel) : OnlyChannel c s (s.changeFiltered c) :=
  .ite ((OnlyChannel.set ..).trans (addCount_only ..)) (.set ..)

theorem filterTick_only (s : State) (c : Channel) : OnlyChannel c s (s.filterTick c) :=
  .ite (.refl ..) (.ite (.set ..) (.ite (changeFiltered_only ..) (.set ..)))

theorem timeTest_only (s : State) (c : Channel) : OnlyChannel c s (s.timeTest c) := .ite (addCount_only ..) (.refl ..)

/-- A channel's share of a tick of a LIVE unit (R5, R8). -/
def channelTick (s : State) (c : Channel) : State := (s.filterTick c).timeTest c

theorem channelTick_only (s : State) (c : Channel) : OnlyChannel c s (s.channelTick c) :=
  (filterTick_only ..).trans (timeTest_only ..)

theorem addCount_get : (s.addCount c).capture.channels.get c = (s.capture.channels.get c).countedUp := by
  unfold CaptureChannel.countedUp
  split
  · next h => rw [addCount_of_room h, setCaptureChannel_get]
  · next h =>
    rw [addCount_of_full (Nat.not_lt.1 h), (raise_changes ..).capture_eq]
    exact setCaptureChannel_get _

theorem timeTest_get : (s.timeTest c).capture.channels.get c =
    if (s.config.live.channels.get c).mode = .time ∧
        (s.capture.channels.get c).filtered = countedLevel (s.config.live.channels.get c).polarity then
      (s.capture.channels.get c).countedUp
    else s.capture.channels.get c := by
  rw [← activeLevel_eq]
  unfold timeTest
  split
  · next h => exact (addCount_get).trans (if_pos h).symm
  · next h => exact (if_neg h).symm

/-- A channel's filter after a tick, before any count (R5, R6). -/
def filterTicked (g : ChannelConfig) (k : CaptureChannel) : CaptureChannel :=
  if g.filter = 0 then k
  else if k.sync = k.filtered then { k with run := 0 }
  else if k.run + 1 = g.filter then { k with filtered := k.sync, run := 0 }
  else { k with run := k.run + 1 }

/-- The filter takes its level, and an EDGE channel counts the change (R5, R7). -/
theorem filterTick_counts (hlive : s.capture.state = .live) (ht : s.tickTakes c)
    (h : (s.config.live.channels.get c).mode = .edge ∧
      (s.capture.channels.get c).sync = countedLevel (s.config.live.channels.get c).polarity) :
    (s.filterTick c).capture.channels.get c =
      (filterTicked (s.config.live.channels.get c) (s.capture.channels.get c)).countedUp := by
  obtain ⟨hfilter, hnew, hrun⟩ := ht
  have hdue : s.filterDue c = true := filterDue_iff.2 ⟨hlive, hfilter, hnew, hrun⟩
  have htick : s.filterTick c = s.changeFiltered c := by
    rw [filterTick]
    exact (if_neg hfilter).trans ((if_neg hnew).trans (if_pos hdue))
  rw [htick, changeFiltered_counted h, addCount_get, setCaptureChannel_get, filterTicked, if_neg hfilter, if_neg hnew, if_pos hrun]

/-- Without a counted change the tick's filter is all that changes (R5, R6). -/
theorem filterTick_plain (hlive : s.capture.state = .live)
    (h : s.tickTakes c → ¬ ((s.config.live.channels.get c).mode = .edge ∧
      (s.capture.channels.get c).sync = countedLevel (s.config.live.channels.get c).polarity)) :
    (s.filterTick c).capture.channels.get c = filterTicked (s.config.live.channels.get c) (s.capture.channels.get c) := by
  unfold filterTick filterTicked
  dsimp only
  by_cases hfilter : (s.config.live.channels.get c).filter = 0
  · rw [if_pos hfilter]
    exact congrArg (fun u : State => u.capture.channels.get c) (if_pos hfilter)
  · rw [if_neg hfilter]
    refine (congrArg (fun u : State => u.capture.channels.get c) (if_neg hfilter)).trans ?_
    by_cases hsame : (s.capture.channels.get c).sync = (s.capture.channels.get c).filtered
    · rw [if_pos hsame, if_pos hsame, setCaptureChannel_get]
    · rw [if_neg hsame, if_neg hsame]
      by_cases hrun : (s.capture.channels.get c).run + 1 = (s.config.live.channels.get c).filter
      · rw [if_pos (filterDue_iff.2 ⟨hlive, hfilter, hsame, hrun⟩), if_pos hrun,
          changeFiltered_uncounted (h ⟨hfilter, hsame, hrun⟩), setCaptureChannel_get]
      · have hdue : ¬ s.filterDue c = true := fun hd => hrun (filterDue_iff.1 hd).2.2.2
        rw [if_neg hdue, if_neg hrun, setCaptureChannel_get]

/-! ## The filter's values -/

theorem countedUp_sync (k : CaptureChannel) : k.countedUp.sync = k.sync ∧ k.countedUp.filtered = k.filtered ∧
    k.countedUp.run = k.run := by
  unfold CaptureChannel.countedUp
  split <;> exact ⟨rfl, rfl, rfl⟩

theorem filterTicked_counts (g : ChannelConfig) (k : CaptureChannel) :
    (filterTicked g k).pending = k.pending ∧ (filterTicked g k).lost = k.lost := by
  unfold filterTicked
  split
  · exact ⟨rfl, rfl⟩
  · split
    · exact ⟨rfl, rfl⟩
    · split <;> exact ⟨rfl, rfl⟩

/-- What the tick does to a filter, as the model computes it (R5, R6). -/
theorem filterTicked_filters :
    TickFilters s c (filterTicked (s.config.live.channels.get c) (s.capture.channels.get c)) := by
  unfold filterTicked
  constructor
  case sync =>
    split
    · rfl
    · split
      · rfl
      · split <;> rfl
  case taken =>
    rintro ⟨hfilter, hnew, hrun⟩
    rw [if_neg hfilter, if_neg hnew, if_pos hrun]
    exact ⟨rfl, rfl⟩
  case kept =>
    intro hnot
    split
    · rfl
    · next hfilter =>
      split
      · rfl
      · next hnew =>
        rw [if_neg fun hrun => hnot ⟨hfilter, hnew, hrun⟩]
  case equal =>
    intro hfilter hsame
    rw [if_neg hfilter, if_pos hsame]
  case counting =>
    intro hfilter hnew hnot
    rw [if_neg hfilter, if_neg hnew, if_neg fun hrun => hnot ⟨hfilter, hnew, hrun⟩]

theorem tickFilters_congr {k k' : CaptureChannel} (h : TickFilters s c k)
    (hk : k'.sync = k.sync ∧ k'.filtered = k.filtered ∧ k'.run = k.run) : TickFilters s c k' := by
  obtain ⟨hsync, hfiltered, hrun⟩ := hk
  constructor
  case sync => rw [hsync, h.sync]
  case taken => rw [hfiltered, hrun]; exact h.taken
  case kept => rw [hfiltered]; exact h.kept
  case equal => rw [hrun]; exact h.equal
  case counting => rw [hrun]; exact h.counting

/-- A channel whose tick adds a count (R7, R8, R10). -/
theorem channelTicked_up {f : CaptureChannel} (hf : f = filterTicked (s.config.live.channels.get c) (s.capture.channels.get c))
    (h : s.tickCounts c f.filtered) : ChannelTicked s c f.countedUp := by
  obtain ⟨hpending, hlost⟩ := filterTicked_counts (s.config.live.channels.get c) (s.capture.channels.get c)
  rw [← hf] at hpending hlost
  have hfiltered := countedUp_sync f
  constructor
  case filters => exact tickFilters_congr (hf ▸ filterTicked_filters) hfiltered
  case added =>
    intro _ hroom
    rw [CaptureChannel.countedUp, if_pos (by rw [hpending]; exact hroom), ← hpending, ← hlost]
    exact ⟨rfl, rfl⟩
  case lost =>
    intro _ hfull
    rw [CaptureChannel.countedUp, if_neg (by rw [hpending]; exact Nat.not_lt.2 hfull), ← hpending, ← hlost]
    exact ⟨rfl, rfl⟩
  case kept =>
    intro hnot
    rw [hfiltered.2.1] at hnot
    exact absurd h hnot

/-- A channel whose tick adds none. -/
theorem channelTicked_plain {f : CaptureChannel} (hf : f = filterTicked (s.config.live.channels.get c) (s.capture.channels.get c))
    (h : ¬ s.tickCounts c f.filtered) : ChannelTicked s c f := by
  have hcounts := filterTicked_counts (s.config.live.channels.get c) (s.capture.channels.get c)
  rw [← hf] at hcounts
  exact ⟨hf ▸ filterTicked_filters, fun hyes => absurd hyes h, fun hyes => absurd hyes h, fun _ => hcounts⟩

theorem channelTick_ticked (hlive : s.capture.state = .live) : ChannelTicked s c ((s.channelTick c).capture.channels.get c) := by
  have hsettings : (s.filterTick c).config = s.config := (filterTick_changes s c).config_eq
  generalize hf : filterTicked (s.config.live.channels.get c) (s.capture.channels.get c) = f
  rw [channelTick, timeTest_get, hsettings]
  cases hmode : (s.config.live.channels.get c).mode with
  | off =>
    rw [if_neg (fun h => by cases h.1), filterTick_plain hlive (fun _ h => by rw [hmode] at h; cases h.1), hf]
    refine channelTicked_plain hf.symm ?_
    rw [tickCounts, hmode]
    exact id
  | edge =>
    rw [if_neg (fun h => by cases h.1)]
    by_cases ht : s.tickTakes c
    · have hlevel : f.filtered = (s.capture.channels.get c).sync := (hf ▸ filterTicked_filters (s := s) (c := c)).taken ht |>.1
      by_cases hcounted : (s.capture.channels.get c).sync = countedLevel (s.config.live.channels.get c).polarity
      · rw [filterTick_counts hlive ht ⟨hmode, hcounted⟩, hf]
        refine channelTicked_up hf.symm ?_
        rw [tickCounts, hmode, hlevel]
        exact ⟨ht, hcounted⟩
      · rw [filterTick_plain hlive fun _ h => hcounted h.2, hf]
        refine channelTicked_plain hf.symm ?_
        rw [tickCounts, hmode, hlevel]
        exact fun h => hcounted h.2
    · rw [filterTick_plain hlive fun h => absurd h ht, hf]
      refine channelTicked_plain hf.symm ?_
      rw [tickCounts, hmode]
      exact fun h => ht h.1
  | time =>
    rw [filterTick_plain hlive (fun _ h => by rw [hmode] at h; cases h.1), hf]
    split
    · next h =>
      refine channelTicked_up hf.symm ?_
      rw [tickCounts, hmode]
      exact h.2
    · next h =>
      refine channelTicked_plain hf.symm ?_
      rw [tickCounts, hmode]
      exact fun hlevel => h ⟨rfl, hlevel⟩

/-! ## Every channel -/

/-- A tick at a channel depends on its settings and its own capture state only. -/
theorem channelTicked_congr {u : State} {k : CaptureChannel} (hlive : u.config.live = s.config.live)
    (hk : u.capture.channels.get c = s.capture.channels.get c) (h : ChannelTicked u c k) : ChannelTicked s c k := by
  have htakes : u.tickTakes c = s.tickTakes c := by rw [tickTakes, tickTakes, hlive, hk]
  have hcounts : ∀ f, u.tickCounts c f = s.tickCounts c f := fun f => by
    rw [tickCounts, tickCounts, hlive, htakes]
  obtain ⟨⟨hsync, htaken, hkept, hequal, hcounting⟩, hadded, hlost, hplain⟩ := h
  rw [htakes] at htaken hkept hcounting
  rw [hlive] at hequal hcounting
  rw [hcounts] at hadded hlost hplain
  rw [hk] at hsync htaken hkept hequal hcounting hadded hlost hplain
  exact ⟨⟨hsync, htaken, hkept, hequal, hcounting⟩, hadded, hlost, hplain⟩

theorem channelTicks_others (cs : List Channel) : ∀ s : State, Changes [.capture, .notices] s (cs.foldl channelTick s) ∧
    (cs.foldl channelTick s).capture.state = s.capture.state ∧
    ∀ c, c ∉ cs → (cs.foldl channelTick s).capture.channels.get c = s.capture.channels.get c := by
  induction cs with
  | nil => exact fun s => ⟨.refl _ _, rfl, fun _ _ => rfl⟩
  | cons d cs ih =>
    intro s
    have hfirst := channelTick_only s d
    obtain ⟨hchanges, hstate, hothers⟩ := ih (s.channelTick d)
    refine ⟨hfirst.changes.trans hchanges, hstate.trans hfirst.state, fun c hc => ?_⟩
    obtain ⟨hne, hrest⟩ := List.ne_and_not_mem_of_not_mem_cons hc
    exact (hothers c hrest).trans (hfirst.others c hne)

theorem captureTick_eq (hlive : s.capture.state = .live) : s.captureTick = Channel.all.foldl channelTick s := by
  have heach : (fun (s : State) c => (s.filterTick c).timeTest c) = channelTick := rfl
  rw [captureTick, if_pos hlive, heach]

/-- The capture unit's share of a tick, at each channel (R5, R7, R8). -/
theorem captureTick_ticked (hlive : s.capture.state = .live) (c : Channel) :
    ChannelTicked s c (s.captureTick.capture.channels.get c) := by
  obtain ⟨hbefore, hafter⟩ : c ∉ Channel.all.take c.toNat ∧ c ∉ Channel.all.drop (c.toNat + 1) := by cases c <;> decide
  obtain ⟨hchanges, hstate, hothers⟩ := channelTicks_others (Channel.all.take c.toNat) s
  obtain ⟨-, -, hothers'⟩ := channelTicks_others (Channel.all.drop (c.toNat + 1))
    (((Channel.all.take c.toNat).foldl channelTick s).channelTick c)
  rw [captureTick_eq hlive, channels_split c, List.foldl_append, List.foldl_cons, hothers' c hafter]
  exact channelTicked_congr (by rw [hchanges.config_eq]) (hothers c hbefore) (channelTick_ticked (hstate.trans hlive))

/-! ## The tick's drain round and the arbiter -/

theorem secondTick_live : s.secondTick.config.live = s.config.live := by
  have hidle : ∀ u : State, u.idleSecond.config.live = u.config.live := fun u => by
    unfold idleSecond
    split
    · exact u.closeSession_live _
    · split <;> rfl
  unfold secondTick
  split
  · rw [takeSecond, secondEffects, hidle, (intervalSecond_changes _).config_eq]
    rfl
  · rfl

theorem svcTick_live : s.svcTick.config.live = s.config.live := by
  have hclosed : ∀ x, (s.svcTaken.closeSession x).config.live = s.config.live := s.svcTaken.closeSession_live
  unfold svcTick
  split
  · rfl
  · split
    · rw [svcChange_eq]
      split
      · rfl
      · exact hclosed _
    · rfl

/-- A tick at which the tariff select filter is not due changes nothing but that filter (R30). -/
theorem tselTick_of_early (halive : s.alive = true) (h : s.tselDue = false) :
    s.tselTick = s.setAccum { s.accum with tsel := tselTicked s.accum.tsel } := by
  have hrun : ¬ tselValue s.accum.tsel = s.accum.tsel.filtered → tselValue s.accum.tsel = s.accum.tsel.candidate →
      ¬ s.accum.tsel.run + 1 = 20 := by
    intro hnew hcandidate hlast
    rw [tselDue, halive, bne_iff_ne.2 hnew, beq_iff_eq.2 hcandidate] at h
    exact absurd h (by simp [hlast, Config.lineFilterTicks])
  unfold tselTick tselTicked Config.lineFilterTicks
  dsimp only
  by_cases hsame : tselValue s.accum.tsel = s.accum.tsel.filtered
  · rw [if_pos hsame, if_pos hsame]
  · rw [if_neg hsame, if_neg hsame]
    by_cases hcandidate : tselValue s.accum.tsel = s.accum.tsel.candidate
    · rw [if_pos hcandidate, if_pos hcandidate, if_neg (hrun hsame hcandidate), if_neg (hrun hsame hcandidate)]
    · rw [if_neg hcandidate, if_neg hcandidate]

/-- What the capture unit finds at its share of a tick without a tariff select change. -/
structure TickBegun (s u : State) : Prop where
  capture : u.capture = s.capture
  live : u.config.live = s.config.live
  accounts : u.accum.accounts = s.accum.accounts
  tariff : u.accum.tariff = s.accum.tariff
  power : u.power = s.power
  requests : u.link.requests = s.link.requests

theorem tickBegun (halive : s.alive = true) (h : s.tselDue = false) : TickBegun s s.tickSvc.tselTick := by
  have hsupply : s.tickSvc.supply = s.supply := by
    rw [tickSvc, (svcTick_changes _).supply_eq, (secondTick_changes _).supply_eq]
  have halive' : s.tickSvc.alive = true := by
    rw [alive, hsupply]
    exact halive
  have hearly : s.tickSvc.tselDue = false := by
    rw [tselDue, alive, hsupply, tickSvc_accum]
    exact h
  rw [tselTick_of_early halive' hearly]
  constructor
  case capture => rw [setAccum_capture, tickSvc, (svcTick_changes _).capture_eq, (secondTick_changes _).capture_eq]
  case live => rw [setAccum_config, tickSvc, svcTick_live, secondTick_live]
  case accounts => rw [setAccum_accum, tickSvc_accum]
  case tariff => rw [setAccum_accum, tickSvc_accum]
  case power => rw [setAccum_power, tickSvc, (svcTick_changes _).power_eq, (secondTick_changes _).power_eq]
  case requests => rw [setAccum_link, tickSvc, (svcTick_changes _).link_eq, secondTick_requests]

/-- A tick of RUN without a request ends with the arbiter's choice behind the drain round (R24, log 7). -/
theorem exec_tick_of_run (halive : s.alive = true) (hrun : s.power.device = .run) (hr : s.link.requests = []) :
    exec .tick s = .next s.tickPrelude.arbiterRun := by
  have hdevice : s.tickPrelude.power.device = .run := by rw [tickPrelude_power, hrun]
  have hearly : s.tickPrelude.resumeDue = false := by
    rw [resumeDue, hdevice]
    rfl
  rw [exec_tick halive, executeHead_of_none (.inr (by rw [tickPrelude_requests, hr])), resumeTick_of_early hearly,
    if_neg (by rw [hdevice]; decide), arbiter_of_run _ hdevice]

end State

/-- Settles O29: the count of the tick is in the round's drain, and a commit that then starts finds nothing pending. -/
theorem tickMovesCountsToTheActiveBucket : Obligations.TickMovesCountsToTheActiveBucket := by
  unfold Obligations.TickMovesCountsToTheActiveBucket
  intro s c halive hrun hlive hr hearly hmax
  refine ⟨_, exec_tick_of_run halive hrun hr, ?_⟩
  dsimp only
  have hbegun := tickBegun halive hearly
  have hticked : ChannelTicked s c (s.tickCaptured.capture.channels.get c) :=
    channelTicked_congr hbegun.live (by rw [hbegun.capture]) (captureTick_ticked (by rw [hbegun.capture, hlive]) c)
  have hgap := gapTick_changes s.tickCaptured
  have hdevice : s.tickCaptured.gapTick.power.device = .run := by
    rw [hgap.power_eq, tickCaptured, (captureTick_changes _).power_eq, hbegun.power, hrun]
  have hround : s.tickPrelude = s.tickCaptured.gapTick.drainAll := if_pos hdevice
  have hcapture : s.tickCaptured.gapTick.capture = s.tickCaptured.capture := hgap.capture_eq
  have haccum : s.tickCaptured.gapTick.accum = s.tickSvc.tselTick.accum := by
    rw [hgap.accum_eq, tickCaptured, (captureTick_changes _).accum_eq]
  have hsettings : s.tickCaptured.gapTick.config.live = s.config.live := by
    rw [hgap.config_eq, tickCaptured, (captureTick_changes _).config_eq, hbegun.live]
  have hdrained := s.tickCaptured.gapTick.drainAll_drained
  obtain ⟨hchannel, haccount⟩ := hdrained.of_all c
  rw [drainCounts_account, drainedAccount, liveChannel, hcapture, haccum, hsettings, hbegun.accounts, hbegun.tariff] at haccount
  rw [hcapture] at hchannel
  have harbiter := SomeDrained.of_pending_zero s.tickPrelude.arbiterRun_drained (c := c) (by rw [hround, hchannel])
    (by rw [hround, haccount]; exact Nat.min_le_left ..)
  rw [harbiter.1, harbiter.2, s.tickPrelude.arbiterRun_drained.tariff, hround, hchannel, haccount, hdrained.tariff, haccum,
    hbegun.tariff]
  generalize s.tickCaptured.capture.channels.get c = k at hticked
  obtain ⟨hbucket, hothers, hdelta, hversion⟩ := Account.drained_numbers (s.accum.accounts.get c) s.accum.tariff k.pending
    (s.config.live.channels.get c).weight
  refine ⟨tickFilters_congr hticked.filters ⟨rfl, rfl, rfl⟩, rfl, rfl, fun moved hmoved => ?_, fun hcounts hfull => ?_,
    fun hnot => ?_⟩
  · have hpending : k.pending = moved := by
      obtain ⟨hcounts, hroom, rfl⟩ | ⟨hnot | hfull, rfl⟩ := hmoved
      · exact (hticked.added hcounts hroom).1
      · exact (hticked.kept hnot).1
      · by_cases hcounts : s.tickCounts c k.filtered
        · exact (hticked.lost hcounts hfull.ge).1
        · exact (hticked.kept hcounts).1
    rw [← hpending]
    exact ⟨hbucket, hothers, hdelta, hversion⟩
  · exact (hticked.lost hcounts hfull.ge).2
  · by_cases hcounts : s.tickCounts c k.filtered
    · exact (hticked.added hcounts (lt_of_le_of_ne hmax fun hfull => hnot ⟨hcounts, hfull⟩)).2
    · exact (hticked.kept hcounts).2

end Sys2Proof.Machine
end

section

-- One theorem at a time, as in the tests: many proofs elaborated at once each hold a thread's stack.
set_option Elab.async false

/-! CONFIG_SCAN, and what a cut APPLY operation leaves for it (O39). -/

namespace Sys2Proof.Machine

open State

namespace State

variable {s t : State} {op : Operation} {n : Nat} {bs : List Byte}

theorem exec_scanReadEnd (hop : s.store.op = some op) (hx : op.task = .scanRead) :
    exec .scanReadEnd s = .next ((s.setOp none).scanReadEnd (s.slotBytes op.sector op.slot)) :=
  congrArg Host.Outcome.next (atEnd_of_op hop hx _)

theorem scanReadEnd_config (h : s.scan.step = .config n) : s.scanReadEnd bs = s.configReadEnd n bs := by
  simp only [scanReadEnd, h]

/-! ## Reads and the choice -/

/-- A read of CONFIG_SCAN taken, before what follows it (R134). -/
def configTaken (s : State) (bs : List Byte) : State :=
  (s.setOp none).setScan { s.scan with configBytes := s.scan.configBytes ++ bs }

theorem configTaken_changes : Changes [.scan, .store] s (s.configTaken bs) :=
  (setScan_changes ..).after (by decide) ((setOp_changes ..).mono (by decide))

/-- Before the eighth read the next slot is read (R134). -/
theorem configReadEnd_next (hn : n < 7) : (s.setOp none).configReadEnd n bs =
    (s.configTaken bs).beginScanRead (.config (n + 1)) (configRead (n + 1)).1 (configRead (n + 1)).2 :=
  if_pos hn

/-- CONFIG_SCAN's choice from the bytes it has read (R106). -/
def chosen (bytes : List Byte) : Chosen := chooseImage (parseImage (slice bytes 0 128)) (parseImage (slice bytes 128 128))

/-- The eighth read is followed by the choice and the first header's read (R134). -/
theorem configReadEnd_last (hn : 7 ≤ n) : (s.setOp none).configReadEnd n bs =
    ((s.configTaken bs).applyChosen (chosen (s.scan.configBytes ++ bs))).readHeader .s2 :=
  if_neg (Nat.not_lt.2 hn)

theorem configRead_a (h : n < 3) : configRead (n + 1) = (.config .a, n + 1) := if_pos (by omega)

theorem configRead_b (h : 3 ≤ n) : configRead (n + 1) = (.config .b, n - 3) := by
  rw [configRead, if_neg (by omega)]
  congr 1

/-! ## Cut operations of an APPLY -/

/-- A RESET or a loss of supply leaves the array as a tear of the operation in progress does (R61). -/
theorem exists_tear (h : (exec .resetLineActive s = .next t ∧ s.supply.powered = true ∧ s.supply.resetLine = false) ∨
    (exec .supplyLoss s = .next t ∧ s.supply.powered = true)) :
    ∃ u : State, u.array = s.array ∧ u.store = s.store ∧ t.array = u.tear.array := by
  obtain ⟨hexec, hpowered, hline⟩ | ⟨hexec, hpowered⟩ := h
  · have hnext : exec .resetLineActive s =
        .next ((s.setSupply { s.supply with resetLine := true }).tear.startEntry .resetLine) :=
      (if_neg (by rw [hline]; decide)).trans (congrArg Host.Outcome.next (if_pos hpowered))
    rw [hnext] at hexec
    exact ⟨s.setSupply { s.supply with resetLine := true }, rfl, rfl, by rw [← Host.Outcome.next.inj hexec, startEntry_array]⟩
  · have hnext : exec .supplyLoss s = .next s.loseSupply := congrArg Host.Outcome.next (if_pos hpowered)
    rw [hnext] at hexec
    exact ⟨s, rfl, rfl, by rw [← Host.Outcome.next.inj hexec, loseSupply_array]⟩

theorem take_readBytes (m : Memory) (k : Nat) : ∀ n a, k ≤ n →
    (Memory.readBytes m a n).take k = Memory.readBytes m a k := by
  induction k with
  | zero => exact fun _ _ _ => rfl
  | succ k ih =>
    intro n a hn
    obtain ⟨n, rfl⟩ : ∃ i, n = i + 1 := ⟨n - 1, by omega⟩
    rw [Memory.readBytes, List.take_succ_cons, ih n (a + 1) (by omega)]
    rfl

theorem imageBytesAt_eq (m : Memory) (k : Sector) : m.imageBytesAt k = Memory.readBytes m (k.toNat * 1024) 128 := by
  simp only [Memory.imageBytesAt, slotAddress, sectorSize, slotSize, Nat.zero_mul, Nat.add_zero, Nat.reduceMul]

variable {k : ConfigSector}

/-- A torn erase of a config sector leaves no valid image (R111). -/
theorem tear_configErase (hs : ArrayLaw s) (hop : s.store.op = some op) (hk : op.sector = .config k)
    (hx : op.task = .configErase) : parseImage (s.tear.array.imageBytesAt op.sector) = none := by
  have hlength : ∀ bs : List Byte, 10 ≤ bs.length → (tornErase op.sector bs).length = bs.length := fun _ h => tornErase_length _ h
  have harray : s.tear.array = (s.scramble op.sector (tornErase op.sector)).array := by
    simp only [tear, hop, hx]
    rfl
  have hbytes := (scramble_spec hs op.sector (tornErase op.sector)
    (by rw [hlength _ (by simp [sectorSize]), freeBytes_length])).2.1
  have htake := take_readBytes s.tear.array (4 * slotSize) sectorSize (slotAddress op.sector 0) (by decide)
  rw [Memory.imageBytesAt, ← htake, harray, hbytes, hk]
  exact parseImage_cutConfigErase _

/-- A torn program of an image's slot is the completed program, or leaves an image whose CRC does not match (R104). -/
theorem tear_imageProgram (hop : s.store.op = some op) (hx : op.task = .imageProgram) :
    s.tear.array = Memory.program s.array op.address op.bytes ∨
      imageCrcMatches (s.tear.array.imageBytesAt op.sector) = false := by
  have harray : s.tear.array = cutImageProgram (Memory.programTorn s.array op.address op.bytes s.free)
      (Memory.program s.array op.address op.bytes) op.sector := by
    simp only [tear, hop, hx]
    rfl
  rw [harray]
  obtain hwhole | ⟨htorn, hcrc⟩ := cutImageProgram_spec (Memory.programTorn s.array op.address op.bytes s.free)
    (Memory.program s.array op.address op.bytes) op.sector
  · exact .inl hwhole
  · rw [htorn]
    exact .inr hcrc

end State

/-- Settles O39: eight reads and the choice, and a cut erase or program that leaves no false image. -/
theorem configScanChoosesTheNewestValidImage : Obligations.ConfigScanChoosesTheNewestValidImage := by
  unfold Obligations.ConfigScanChoosesTheNewestValidImage
  refine ⟨fun s op n hop hx hstep => ?_, fun s t op k hop hk hs hcut => ?_⟩
  · dsimp only
    refine ⟨_, exec_scanReadEnd hop hx, fun hn => ?_, fun hlo hn => ?_, fun hn => ?_⟩
    · rw [scanReadEnd_config (s := s.setOp none) hstep, configReadEnd_next (by omega), configRead_a hn]
      exact ⟨rfl, rfl, (beginScanRead_changes ..).after (by decide) configTaken_changes⟩
    · rw [scanReadEnd_config (s := s.setOp none) hstep, configReadEnd_next hn, configRead_b hlo]
      exact ⟨rfl, rfl, (beginScanRead_changes ..).after (by decide) configTaken_changes⟩
    · rw [scanReadEnd_config (s := s.setOp none) hstep, configReadEnd_last hn]
      have hchanges : ∀ c, Changes [.scan, .store, .config] s
          (((s.configTaken (s.slotBytes op.sector op.slot)).applyChosen c).readHeader .s2) := fun c =>
        (readHeader_changes ..).after (by decide)
          ((applyChosen_changes ..).after (by decide) (configTaken_changes.mono (by decide)))
      refine ⟨rfl, rfl, rfl, hchanges _, fun x y hx hy => ?_, fun x hx hy => ?_, fun y hx hy => ?_, fun hx hy => ?_⟩
      all_goals
        have hchosen : chosen (s.scan.configBytes ++ s.slotBytes op.sector op.slot) = chooseImage _ _ := congrArg₂ chooseImage hx hy
      · by_cases hgeneration : x.generation < y.generation
        · have hb : chooseImage (some x) (some y) =
              { config := y.config, generation := y.generation, sector := some .b, outcome := .bothValid } := if_pos hgeneration
          rw [hchosen, hb]
          exact ⟨rfl, fun hle => absurd hgeneration (Nat.not_lt.2 hle), fun _ => ⟨rfl, rfl, rfl⟩⟩
        · have ha : chooseImage (some x) (some y) =
              { config := x.config, generation := x.generation, sector := some .a, outcome := .bothValid } := if_neg hgeneration
          rw [hchosen, ha]
          exact ⟨rfl, fun _ => ⟨rfl, rfl, rfl⟩, fun hlt => absurd hlt hgeneration⟩
      · rw [hchosen]
        exact ⟨rfl, rfl, rfl, rfl⟩
      · rw [hchosen]
        exact ⟨rfl, rfl, rfl, rfl⟩
      · rw [hchosen]
        exact ⟨rfl, rfl, rfl, rfl, fun c => PerChannel.get_all ..⟩
  · dsimp only
    obtain ⟨u, harray, hstore, ht⟩ := exists_tear hcut
    have hop' : u.store.op = some op := by rw [hstore, hop]
    rw [ht, ← imageBytesAt_eq]
    refine ⟨fun hx => tear_configErase (by rw [ArrayLaw, harray]; exact hs) hop' hk hx, fun hx => ?_⟩
    obtain hwhole | hcrc := tear_imageProgram hop' hx
    · exact .inl (by rw [hwhole, harray])
    · exact .inr ⟨by simpa [imageCrcMatches] using hcrc, parseImage_of_crc hcrc⟩

end Sys2Proof.Machine
end

section

-- One theorem at a time, as in the tests: many proofs elaborated at once each hold a thread's stack.
set_option Elab.async false

/-! START's completion: what REBUILD leaves, and the entry into RUN or FLUSH. -/

namespace Sys2Proof.Machine

open State

namespace State

variable {s : State}

/-! ## The first choice of RUN -/

/-- A compaction step begins its operation and touches no other item of the store but the holder (R83). -/
theorem engineStep_store : ∃ o h, s.engineStep.store = { s.store with op := o, holder := h } := by
  have hexamine : ∀ t p, ∃ o h, (s.examine t p).store = { s.store with op := o, holder := h } := fun t p => by
    unfold examine
    split <;> exact ⟨_, _, rfl⟩
  unfold engineStep
  split
  · split
    · exact ⟨_, _, rfl⟩
    · split
      · exact hexamine _ _
      · exact ⟨_, _, rfl⟩
  · exact hexamine _ _
  all_goals exact ⟨_, _, rfl⟩

/-- With neither an entry nor a job the arbiter in RUN leaves the table, the map and the sequence (R77). -/
theorem arbiterRun_of_empty_store (hq : s.sched.queue = []) (hj : s.link.jobs = []) :
    ∃ o h, s.arbiterRun.store = { s.store with op := o, holder := h } := by
  have hchoice : ∃ o h, s.chooseRun.store = { s.store with op := o, holder := h } := by
    unfold chooseRun
    split
    · exact engineStep_store
    · rw [show s.arrayJob? = none by rw [arrayJob?, hj]; rfl]
      dsimp only
      split
      · exact ⟨_, _, rfl⟩
      · rw [takeHead_empty hq, compactIfReady]
        split
        · exact engineStep_store
        · exact ⟨_, _, rfl⟩
  rw [arbiterRun, choices, hq, hj]
  show ∃ o h, (if s.arrayFree then s.chooseRun else s).store = _
  split
  · exact hchoice
  · exact ⟨_, _, rfl⟩

/-! ## REBUILD's end -/

/-- The state REBUILD leaves (R140 to R143). -/
def rebuilt (s : State) : State := s.rebuildStore.rebuildLive.rebuildTariff

theorem rebuilt_changes : Changes [.store, .accum, .capture] s s.rebuilt :=
  (rebuildTariff_changes _).after (by decide)
    ((rebuildLive_changes _).after (by decide) ((rebuildStore_changes s).mono (by decide)))

theorem rebuilt_store : s.rebuilt.store = s.rebuildStore.store := by
  rw [rebuilt, (rebuildTariff_changes _).store_eq, (rebuildLive_changes _).store_eq]

theorem rebuilt_entry (q : RingSector) :
    s.rebuilt.store.table.get q = { s.store.table.get q with mapRecords := s.recordsIn q } := by
  rw [rebuilt_store]
  exact PerRing.get_ofFn ..

theorem rebuilt_map : s.rebuilt.store.map = s.store.map := by rw [rebuilt_store]; rfl

theorem rebuilt_op : s.rebuilt.store.op = s.store.op ∧ s.rebuilt.store.holder = s.store.holder := by
  rw [rebuilt_store]
  exact ⟨rfl, rfl⟩

theorem rebuilt_nextSequence : s.rebuilt.store.nextSequence =
    match s.scan.newest with
    | some p => p.1 + 1
    | none => 1 := by
  rw [rebuilt_store]
  cases h : s.scan.newest with
  | none => simp only [rebuildStore, setStore_store, h]
  | some p => simp only [rebuildStore, setStore_store, h]

/-- The count of sectors that are not WORN does not look at the map-records counts (R81). -/
theorem soundSectors_congr {t : State} (h : ∀ r, (t.store.table.get r).state = (s.store.table.get r).state) :
    t.soundSectors = s.soundSectors := by
  simp only [soundSectors, PerRing.sectorsWith, h]

theorem rebuilt_exhausted : s.rebuilt.store.exhausted = true ↔ s.soundSectors < 4 := by
  rw [rebuilt_store, rebuildStore, setStore_store]
  dsimp only
  rw [decide_eq_true_iff, soundSectors_congr (s := s)]
  · exact Iff.rfl
  · intro r
    rw [setStore_store]
    dsimp only
    rw [PerRing.get_ofFn]
    rfl

theorem rebuilt_accum : s.rebuilt.accum =
    { s.accum with
      accounts := PerChannel.ofFn (fun c => { buckets := (s.store.map.get c).buckets, delta := 0, version := 0 })
      tariff := s.restoredTariff } := rfl

theorem rebuilt_capture : s.rebuilt.capture =
    { s.capture with
      channels := PerChannel.ofFn
        (fun c => { s.capture.channels.get c with lost := (s.store.map.get c).lost, pending := 0 }) } := rfl

/-! ## The entry into RUN -/

/-- The entry into RUN before its notices and what follows them (R14, R144). -/
def launched (s : State) : State :=
  ((s.rebuilt.setPower { s.power with device := .run }).setScanStep .done).captureLive

theorem launched_changes : Changes [.power, .scan, .capture] s.rebuilt s.launched :=
  (captureLive_changes _).after (by decide) ((setScanStep_changes ..).after (by decide) ((setPower_changes ..).mono (by decide)))

theorem launched_power : s.launched.power = { s.power with device := .run } := by
  rw [launched, (captureLive_changes _).power_eq, (setScanStep_changes ..).power_eq, setPower_power]

theorem launched_scan : s.launched.scan = { s.scan with step := .done } := by
  rw [launched, (captureLive_changes _).scan_eq, setScanStep, setScan_scan, setPower_scan, rebuilt_changes.scan_eq]

theorem launched_capture : s.launched.capture =
    { state := .live
      channels := PerChannel.ofFn (fun c => CaptureChannel.reinitialised (s.rebuilt.capture.channels.get c)) } := by
  rw [launched, captureLive, setCapture_capture, (setScanStep_changes ..).capture_eq, setPower_capture]

theorem launched_channel (c : Channel) : s.launched.capture.channels.get c =
    { sync := (s.capture.channels.get c).sync, run := 0, filtered := (s.capture.channels.get c).sync, pending := 0
      lost := (s.store.map.get c).lost } := by
  rw [launched_capture, rebuilt_capture]
  dsimp only
  rw [PerChannel.get_ofFn, PerChannel.get_ofFn]
  rfl

theorem launched_account (c : Channel) :
    s.launched.accum.accounts.get c = { buckets := (s.store.map.get c).buckets, delta := 0, version := 0 } := by
  rw [launched_changes.accum_eq, rebuilt_accum]
  exact PerChannel.get_ofFn ..

/-- START's completion, by PFAIL (R144, R145). -/
theorem completeStart_eq : s.completeStart =
    if s.power.pfailFiltered then s.launched.raiseStartNotices.flushEntry
    else (s.launched.raiseStartNotices.setReceiver .hunt none).arbiter := by
  have hpower : s.rebuilt.power = s.power := rebuilt_changes.power_eq
  have hnotices : s.launched.raiseStartNotices.power.pfailFiltered = s.power.pfailFiltered := by
    rw [(raiseStartNotices_changes _).power_eq, launched_power]
  have hentry : s.completeStart =
      if s.launched.raiseStartNotices.power.pfailFiltered then s.launched.raiseStartNotices.flushEntry
      else (s.launched.raiseStartNotices.setReceiver .hunt none).arbiter := by
    rw [launched, ← hpower]
    rfl
  rw [hentry, hnotices]

/-! ## The start's notices -/

theorem raiseStartNotices_eq : s.raiseStartNotices =
    (let a := s.raise .power (.power (.started s.power.startCause))
     let b := if s.config.outcome = .bothValid then a else a.raise .config (.config s.config.outcome)
     if s.store.exhausted then b.raise .storeExhausted .empty else b) := by
  have hconfig : ∀ (u : State) k d, (u.raise k d).config = u.config := fun _ _ _ => rfl
  have hstore : ∀ (u : State) k d, (u.raise k d).store = u.store := fun _ _ _ => rfl
  unfold raiseStartNotices
  by_cases h : s.config.outcome = .bothValid
  · simp only [hconfig, hstore, h, if_true]
  · simp only [hconfig, hstore, h, if_false]

theorem raiseStartNotices_records :
    s.raiseStartNotices.notices.records.get .power =
      NoticeRecord.raised (s.notices.records.get .power) .power (.power (.started s.power.startCause)) ∧
    s.raiseStartNotices.notices.records.get .config =
      (if s.config.outcome = .bothValid then s.notices.records.get .config
        else NoticeRecord.raised (s.notices.records.get .config) .config (.config s.config.outcome)) ∧
    s.raiseStartNotices.notices.records.get .storeExhausted =
      (if s.store.exhausted then NoticeRecord.raised (s.notices.records.get .storeExhausted) .storeExhausted .empty
        else s.notices.records.get .storeExhausted) := by
  rw [raiseStartNotices_eq]
  dsimp only
  refine ⟨?_, ?_, ?_⟩
  · split <;> split <;> simp only [raise_other, raise_record, ne_eq, reduceCtorEq, not_false_eq_true]
  · split <;> split <;> simp only [raise_other, raise_record, ne_eq, reduceCtorEq, not_false_eq_true]
  · split <;> split <;> simp only [raise_other, raise_record, ne_eq, reduceCtorEq, not_false_eq_true]

end State

end Sys2Proof.Machine
end

section

-- One theorem at a time, as in the tests: many proofs elaborated at once each hold a thread's stack.
set_option Elab.async false

/-! REBUILD and the completion of START (O41). -/

namespace Sys2Proof.Machine

open State

/-- What START's completion leaves with PFAIL inactive (R12, R14, R140 to R145). -/
structure StartCompleted (s t : State) : Prop where
  power : t.power = { s.power with device := .run }
  step : t.scan.step = .done
  live : t.capture.state = .live
  channel : ∀ c, t.capture.channels.get c =
    { sync := (s.capture.channels.get c).sync, run := 0, filtered := (s.capture.channels.get c).sync, pending := 0
      lost := (s.store.map.get c).lost }
  account : ∀ c, t.accum.accounts.get c = { buckets := (s.store.map.get c).buckets, delta := 0, version := 0 }
  map : t.store.map = s.store.map
  nextSequence : t.store.nextSequence = match s.scan.newest with
    | some p => p.1 + 1
    | none => 1
  highestEpoch : t.store.highestEpoch = s.store.highestEpoch
  tariff : t.accum.tariff = s.restoredTariff
  entry : ∀ q, t.store.table.get q = { s.store.table.get q with mapRecords := s.recordsIn q }
  exhausted : t.store.exhausted = true ↔ s.soundSectors < 4
  powerNotice : t.notices.records.get .power =
    NoticeRecord.raised (s.notices.records.get .power) .power (.power (.started s.power.startCause))
  configNotice : t.notices.records.get .config =
    if s.config.outcome = .bothValid then s.notices.records.get .config
    else NoticeRecord.raised (s.notices.records.get .config) .config (.config s.config.outcome)
  storeNotice : t.notices.records.get .storeExhausted =
    if s.soundSectors < 4 then NoticeRecord.raised (s.notices.records.get .storeExhausted) .storeExhausted .empty
    else s.notices.records.get .storeExhausted
  config : t.config = s.config
  link : t.link = { s.link with receiver := .hunt, gap := none }
  array : t.array = s.array

namespace State

variable {s : State}

/-- START completes in RUN with PFAIL inactive (R144, R145). -/
theorem completeStart_completed (hpfail : s.power.pfailFiltered = false) (hj : s.link.jobs = []) (hq : s.sched.queue = []) :
    StartCompleted s s.completeStart := by
  have hlaunched := launched_changes (s := s)
  have hrebuilt := rebuilt_changes (s := s)
  have hraised := raiseStartNotices_changes s.launched
  have hreceiver := setReceiver_changes s.launched.raiseStartNotices .hunt none
  have hlink : s.launched.raiseStartNotices.link = s.link := by rw [hraised.link_eq, hlaunched.link_eq, hrebuilt.link_eq]
  have hstore : s.launched.raiseStartNotices.store = s.rebuilt.store := by rw [hraised.store_eq, hlaunched.store_eq]
  obtain ⟨hpower, hconfig, hexhausted⟩ := raiseStartNotices_records (s := s.launched)
  rw [hlaunched.notices_eq, hrebuilt.notices_eq] at hpower hconfig hexhausted
  rw [launched_power] at hpower
  rw [hlaunched.config_eq, hrebuilt.config_eq] at hconfig
  rw [hlaunched.store_eq] at hexhausted
  generalize hv : s.launched.raiseStartNotices.setReceiver .hunt none = v
  have hvlink : v.link = { s.link with receiver := .hunt, gap := none } := by
    rw [← hv, ← hlink]
    rfl
  have hvpower : v.power = { s.power with device := .run } := by rw [← hv, hreceiver.power_eq, hraised.power_eq, launched_power]
  have hlast : s.completeStart = v.arbiterRun := by
    rw [completeStart_eq, hpfail, if_neg Bool.false_ne_true, hv, arbiter_of_run _ (by rw [hvpower])]
  have hvsched : v.sched = s.sched := by rw [← hv, hreceiver.sched_eq, hraised.sched_eq, hlaunched.sched_eq, hrebuilt.sched_eq]
  have hrun := arbiterRun_of_empty (s := v) (by rw [hvsched, hq]) (by rw [hvlink]; exact hj)
  obtain ⟨o, h, hrunstore⟩ := arbiterRun_of_empty_store (s := v) (by rw [hvsched, hq]) (by rw [hvlink]; exact hj)
  have hvstore : v.store = s.rebuilt.store := by rw [← hv, hreceiver.store_eq, hstore]
  rw [hvstore] at hrunstore
  have hvcapture : v.capture = s.launched.capture := by rw [← hv, hreceiver.capture_eq, hraised.capture_eq]
  have hvaccum : v.accum = s.launched.accum := by rw [← hv, hreceiver.accum_eq, hraised.accum_eq]
  have hvnotices : v.notices = s.launched.raiseStartNotices.notices := by rw [← hv, hreceiver.notices_eq]
  rw [hlast]
  constructor
  case power => rw [hrun.power_eq, hvpower]
  case step => rw [hrun.scan_eq, ← hv, hreceiver.scan_eq, hraised.scan_eq, launched_scan]
  case live => rw [hrun.capture_eq, hvcapture, launched_capture]
  case channel => intro c; rw [hrun.capture_eq, hvcapture, launched_channel]
  case account => intro c; rw [hrun.accum_eq, hvaccum, launched_account]
  case map => rw [hrunstore]; exact rebuilt_map
  case nextSequence => rw [hrunstore]; exact rebuilt_nextSequence
  case highestEpoch => rw [hrunstore]; dsimp only; rw [rebuilt_store]; rfl
  case tariff => rw [hrun.accum_eq, hvaccum, hlaunched.accum_eq, rebuilt_accum]
  case entry => rw [hrunstore]; exact fun q => rebuilt_entry q
  case exhausted => rw [hrunstore]; exact rebuilt_exhausted
  case powerNotice => rw [hrun.notices_eq, hvnotices, hpower]
  case configNotice => rw [hrun.notices_eq, hvnotices, hconfig]
  case storeNotice =>
    rw [hrun.notices_eq, hvnotices, hexhausted]
    exact if_congr rebuilt_exhausted rfl rfl
  case config => rw [hrun.config_eq, ← hv, hreceiver.config_eq, hraised.config_eq, hlaunched.config_eq, hrebuilt.config_eq]
  case link => rw [hrun.link_eq, hvlink]
  case array => rw [hrun.array_eq, ← hv, hreceiver.array_eq, hraised.array_eq, hlaunched.array_eq, hrebuilt.array_eq]

/-! ## FLUSH entry with nothing to write -/

theorem closeSession_powerNotice (x : Option CloseReason) :
    (s.closeSession x).notices.records.get .power = s.notices.records.get .power := by
  cases hsession : s.service.session with
  | closed => rw [s.closeSession_of_closed hsession]
  | opened n =>
    cases x with
    | none => simp only [closeSession, hsession]; rfl
    | some x =>
      rw [s.closeSession_opened hsession, raise_other _ _ _ (by decide)]
      rfl

theorem enterFlush_powerNotice : s.enterFlush.notices.records.get .power = s.notices.records.get .power := by
  have hcut := s.flushCut_changes
  have hlisted : s.flushListed.notices = s.flushDrained.notices := setSched_notices ..
  rw [enterFlush_eq, closeSession_powerNotice, hcut.notices_eq, hlisted, flushDrained, drainCountsAll_otherNotice _ (by decide)]
  rfl

theorem cancelAll_of_idle (hrequests : s.link.requests = []) (hj : s.link.jobs = []) (hreplies : s.link.replies = []) :
    s.cancelAll.link = s.link := by
  have hcleared : { s.link with jobs := [], requests := [], replies := [] } = s.link := by
    rw [← hrequests, ← hj, ← hreplies]
  unfold cancelAll
  dsimp only
  rw [hrequests, hj, hreplies]
  have hidle : ∀ u : State, u.link.replies = [] → u.startTransmitter = u := fun u hu => by
    unfold startTransmitter
    rw [hu]
    exact if_neg (by simp)
  rw [hidle _ rfl, setLink_link]
  exact hcleared

theorem flushDrained_account (c : Channel) : s.flushDrained.accum.accounts.get c = s.drainedAccount c := by
  have hcapture : ∀ x, (s.setPower x).captureFreeze.capture = { s.capture with state := .frozen } := fun x => by
    rw [captureFreeze, setCapture_capture, setPower_capture]
  have haccum : ∀ x, (s.setPower x).captureFreeze.accum = s.accum := fun x => by
    rw [(captureFreeze_changes _).accum_eq, setPower_accum]
  have hconfig : ∀ x, (s.setPower x).captureFreeze.config = s.config := fun x => by
    rw [(captureFreeze_changes _).config_eq, setPower_config]
  rw [(s.flushDrained_drained.of_all c).2, drainCounts_account]
  simp only [drainedAccount, liveChannel, hcapture, haccum, hconfig]

/-- With clean channels and nothing pending FLUSH entry lists no channel (R122). -/
theorem enterFlush_nothing (hclean : ∀ c, (s.accum.accounts.get c).version = (s.store.map.get c).version)
    (hpending : ∀ c, (s.capture.channels.get c).pending = 0) : s.enterFlush.sched.flushList = [] := by
  have hlist : s.flushListed.sched.flushList = s.flushDrained.dirtyChannels := by
    rw [flushListed, setSched_sched]
  rw [enterFlush_sched, hlist, enterFlush_dirtyChannels, List.filter_eq_nil_iff]
  intro c _
  rw [enterFlush_accum, flushDrained_account, drainedAccount, hpending c]
  simpa [Account.drained] using hclean c

theorem cutHolder_of_idle (hop : s.store.op = none) : s.cutHolder.store.holder = none := by
  rw [cutHolder, if_pos (by rw [hop]; rfl)]
  rfl

theorem abortErase_holder : s.abortErase.store.holder = s.store.holder := by rw [abortErase_table]

theorem enterFlush_holder : s.enterFlush.store.holder = s.flushListed.cutHolder.store.holder := by
  rw [enterFlush_eq, (closeSession_changes ..).store_eq, (cancelAll_changes _).store_eq, abortErase_holder]

theorem enterFlush_free (hop : s.store.op = none) : s.enterFlush.arrayFree = true := by
  refine arrayFree_iff.2 ⟨?_, ?_⟩
  · rw [enterFlush_op, hop]
    rfl
  · rw [enterFlush_holder, cutHolder_of_idle (by rw [flushListed_store, hop])]

theorem offerFlush_nil : offerFlush [] s = s.flushEnd := rfl

/-- FLUSH end with every channel written and PFAIL active (R125). -/
theorem flushEnd_retains (hpfail : s.power.pfailFiltered = true) (hmask : s.power.notWritten = 0) : s.flushEnd =
    (s.raise .power (.power .flushComplete)).setPower { s.power with device := .retain, notWritten := 0 } := by
  rw [flushEnd_eq, hmask]
  exact if_pos hpfail

/-- FLUSH entry with PFAIL active, the array free and nothing to write ends at once in RETAIN (R122, R124, R125). -/
theorem flushEntry_of_nothing (hpfail : s.power.pfailFiltered = true) (hop : s.store.op = none)
    (hlist : s.enterFlush.sched.flushList = []) : s.flushEntry =
    ((s.enterFlush.raise .power (.power .flushComplete)).setPower
      { s.enterFlush.power with device := .retain, notWritten := 0 }) := by
  have hpower := s.enterFlush_power
  rw [flushEntry, arbiter_of_flush (by rw [hpower]) (by rw [hpower]) (enterFlush_free hop), hlist, offerFlush_nil,
    flushEnd_retains (by rw [hpower]; exact hpfail) (by rw [hpower])]

/-- START completes with PFAIL active: FLUSH is entered and ends at once in RETAIN (R120, R125, R144). -/
theorem completeStart_retained (hpfail : s.power.pfailFiltered = true) (hop : s.store.op = none)
    (hversion : ∀ c, (s.store.map.get c).version = 0) (hrequests : s.link.requests = []) (hj : s.link.jobs = [])
    (hreplies : s.link.replies = []) :
    s.completeStart.power.device = .retain ∧ s.completeStart.scan.step = .done ∧ s.completeStart.capture.state = .frozen ∧
      s.completeStart.store.op = none ∧ s.completeStart.store.map = s.store.map ∧ s.completeStart.sched.queue = [] ∧
      s.completeStart.sched.flushList = [] ∧
      s.completeStart.notices.records.get .power =
        NoticeRecord.raised
          (NoticeRecord.raised (s.notices.records.get .power) .power (.power (.started s.power.startCause))) .power
          (.power .flushComplete) ∧
      s.completeStart.link = s.link ∧ s.completeStart.array = s.array := by
  have hlaunched := launched_changes (s := s)
  have hrebuilt := rebuilt_changes (s := s)
  have hraised := raiseStartNotices_changes s.launched
  obtain ⟨hnotice, -, -⟩ := raiseStartNotices_records (s := s.launched)
  rw [hlaunched.notices_eq, hrebuilt.notices_eq, launched_power] at hnotice
  have hentry : s.completeStart = s.launched.raiseStartNotices.flushEntry := by rw [completeStart_eq, if_pos hpfail]
  have hpower : s.launched.raiseStartNotices.power = { s.power with device := .run } := by rw [hraised.power_eq, launched_power]
  have hlink : s.launched.raiseStartNotices.link = s.link := by rw [hraised.link_eq, hlaunched.link_eq, hrebuilt.link_eq]
  have hstore : s.launched.raiseStartNotices.store = s.rebuilt.store := by rw [hraised.store_eq, hlaunched.store_eq]
  have hclean : ∀ c, (s.launched.raiseStartNotices.accum.accounts.get c).version =
      (s.launched.raiseStartNotices.store.map.get c).version := fun c => by
    rw [hraised.accum_eq, launched_account, hstore, rebuilt_map, hversion]
  have hpending : ∀ c, (s.launched.raiseStartNotices.capture.channels.get c).pending = 0 := fun c => by
    rw [hraised.capture_eq, launched_channel]
  have hscan : s.launched.raiseStartNotices.scan = { s.scan with step := .done } := by rw [hraised.scan_eq, launched_scan]
  have harray : s.launched.raiseStartNotices.array = s.array := by
    rw [hraised.array_eq, hlaunched.array_eq, hrebuilt.array_eq]
  have hidle : s.launched.raiseStartNotices.store.op = none := by rw [hstore, rebuilt_op.1, hop]
  have hmap : s.launched.raiseStartNotices.store.map = s.store.map := by rw [hstore, rebuilt_map]
  clear hlaunched hraised hstore
  generalize s.launched.raiseStartNotices = v at hentry hnotice hpower hlink hclean hpending hscan harray hidle hmap
  have hlist := enterFlush_nothing hclean hpending
  have hentered := enterFlush_changes v
  have hvlink : v.enterFlush.link = v.link := by
    rw [enterFlush_eq, (closeSession_changes ..).link_eq]
    have hcut := v.flushCut_link
    rw [cancelAll_of_idle (by rw [hcut, hlink, hrequests]) (by rw [hcut, hlink, hj]) (by rw [hcut, hlink, hreplies]), hcut]
  rw [hentry, flushEntry_of_nothing (by rw [hpower]; exact hpfail) hidle hlist]
  refine ⟨rfl, ?_, ?_, ?_, ?_, ?_, ?_, ?_, ?_, ?_⟩
  · rw [setPower_scan, (raise_changes ..).scan_eq, hentered.scan_eq, hscan]
  · rw [setPower_capture, (raise_changes ..).capture_eq, enterFlush_frozen]
  · rw [setPower_store, (raise_changes ..).store_eq, enterFlush_op, hidle]
    rfl
  · rw [setPower_store, (raise_changes ..).store_eq, enterFlush_store, hmap]
  · rw [setPower_sched, (raise_changes ..).sched_eq, enterFlush_queue]
  · rw [setPower_sched, (raise_changes ..).sched_eq, hlist]
  · rw [setPower_notices, raise_record, enterFlush_powerNotice, hnotice]
  · rw [setPower_link, (raise_changes ..).link_eq, hvlink, hlink]
  · rw [setPower_array, (raise_changes ..).array_eq, hentered.array_eq, harray]

end State

end Sys2Proof.Machine
end

section

-- One theorem at a time, as in the tests: many proofs elaborated at once each hold a thread's stack.
set_option Elab.async false

/-! REBUILD's reads (R139, R142) and obligation O41. -/

namespace Sys2Proof.Machine

open State

namespace State

variable {s : State} {r : RingSector} {n : Nat} {x : ReadRecord} {bs : List Byte}

/-! ## A record offered -/

/-- The map after a record read by REBUILD is offered to its channel's entry (R75). -/
def offeredMap (s : State) (r : RingSector) (n : Nat) (x : ReadRecord) : PerChannel MapEntry :=
  if (s.store.map.get x.content.channel).designated.all (fun d => decide (d.sequence ≤ x.sequence)) then
    s.store.map.set x.content.channel
      { designated := some { location := { sector := r, slot := n }, sequence := x.sequence }
        buckets := x.content.buckets, lost := x.content.lost, version := 0 }
  else s.store.map

/-- The newest record after one more is read (R142). -/
def offeredNewest (s : State) (x : ReadRecord) : Option (Nat × Tariff) :=
  if s.scan.newest.all (fun p => decide (p.1 ≤ x.sequence)) then some (x.sequence, x.content.tariff) else s.scan.newest

theorem offerRecord_eq : s.offerRecord r n x =
    (s.setStore { s.store with map := s.offeredMap r n x }).setScan { s.scan with newest := s.offeredNewest x } := by
  have hnewest : ∀ u : State, u.scan = s.scan →
      (if u.scan.newest.all (fun p => decide (p.1 ≤ x.sequence)) then
        u.setScan { u.scan with newest := some (x.sequence, x.content.tariff) }
      else u) = u.setScan { s.scan with newest := s.offeredNewest x } := fun u hu => by
    rw [offeredNewest, hu]
    split
    · rfl
    · rw [← hu]
      rfl
  refine (hnewest _ ?_).trans (congrArg (setScan · _) ?_)
  · split <;> rfl
  · unfold offeredMap
    split <;> rfl

theorem offeredMap_takes (h : ∀ d, (s.store.map.get x.content.channel).designated = some d → d.sequence ≤ x.sequence) :
    (s.offeredMap r n x).get x.content.channel =
      { designated := some { location := { sector := r, slot := n }, sequence := x.sequence }
        buckets := x.content.buckets, lost := x.content.lost, version := 0 } := by
  rw [offeredMap, if_pos (by simpa [Option.all_eq_true] using h), PerChannel.get_set, if_pos rfl]

theorem offeredMap_keeps {d : Designation} (hd : (s.store.map.get x.content.channel).designated = some d)
    (h : x.sequence < d.sequence) : s.offeredMap r n x = s.store.map := by
  rw [offeredMap, hd]
  exact if_neg (by simpa using h)

theorem offeredMap_other {c : Channel} (hc : c ≠ x.content.channel) : (s.offeredMap r n x).get c = s.store.map.get c := by
  unfold offeredMap
  split
  · rw [PerChannel.get_set, if_neg hc]
  · rfl

theorem offeredNewest_takes (h : ∀ p, s.scan.newest = some p → p.1 ≤ x.sequence) :
    s.offeredNewest x = some (x.sequence, x.content.tariff) :=
  if_pos (by simpa [Option.all_eq_true] using h)

theorem offeredNewest_keeps {p : Nat × Tariff} (hp : s.scan.newest = some p) (h : x.sequence < p.1) :
    s.offeredNewest x = some p := by
  rw [offeredNewest, hp]
  exact if_neg (by simpa using h)

/-- A slot read by REBUILD, its record offered if it holds a valid one (R139). -/
def offered (s : State) (r : RingSector) (n : Nat) (bs : List Byte) : State :=
  match parseRecord bs with
  | some x => s.offerRecord r n x
  | none => s

theorem offered_none (h : parseRecord bs = none) : s.offered r n bs = s := by simp only [offered, h]

theorem offered_some (h : parseRecord bs = some x) : s.offered r n bs = s.offerRecord r n x := by simp only [offered, h]

theorem offered_changes : Changes [.store, .scan] s (s.offered r n bs) := by
  unfold offered
  split
  · exact offerRecord_changes ..
  · exact Changes.refl ..

theorem offerRecord_setOp : (s.setOp none).offerRecord r n x = (s.offerRecord r n x).setOp none := by
  rw [offerRecord_eq, offerRecord_eq]
  rfl

theorem offered_setOp : (s.setOp none).offered r n bs = (s.offered r n bs).setOp none := by
  cases h : parseRecord bs with
  | none => rw [offered_none h, offered_none h]
  | some x => rw [offered_some h, offered_some h, offerRecord_setOp]

theorem offered_store : (s.offered r n bs).store = { s.store with map := (s.offered r n bs).store.map } := by
  cases h : parseRecord bs with
  | none => rw [offered_none h]
  | some x => rw [offered_some h, offerRecord_eq]; rfl

theorem offered_table : (s.offered r n bs).store.table = s.store.table := by rw [offered_store]

theorem rebuildSlots_congr {t : State} (h : t.store.table = s.store.table) (q : RingSector) :
    t.rebuildSlots q = s.rebuildSlots q := by
  unfold rebuildSlots entry
  rw [h]

/-! ## REBUILD's reads -/

theorem scanReadEnd_rebuild (h : s.scan.step = .rebuild r n) : s.scanReadEnd bs = s.rebuildReadEnd r n bs := by
  simp only [scanReadEnd, h]

theorem rebuildReadEnd_eq : (s.setOp none).rebuildReadEnd r n bs =
    if n < s.rebuildSlots r then
      ((s.offered r n bs).setOp none).beginScanRead (.rebuild r (n + 1)) (.ring r) (n + 1)
    else ((s.offered r n bs).setOp none).rebuildFrom (sectorsAfter r) := by
  have hslots : ((s.offered r n bs).setOp none).rebuildSlots r = s.rebuildSlots r := rebuildSlots_congr offered_table r
  have hread : (s.setOp none).rebuildReadEnd r n bs =
      if n < ((s.setOp none).offered r n bs).rebuildSlots r then
        ((s.setOp none).offered r n bs).beginScanRead (.rebuild r (n + 1)) (.ring r) (n + 1)
      else ((s.setOp none).offered r n bs).rebuildFrom (sectorsAfter r) := rfl
  rw [hread, offered_setOp, hslots]

theorem firstToRead_after {q : RingSector} (hq : r.toNat < q.toNat) (hslots : 1 ≤ s.rebuildSlots q)
    (hbetween : ∀ p : RingSector, r.toNat < p.toNat → p.toNat < q.toNat → s.rebuildSlots p = 0) :
    s.firstToRead? (sectorsAfter r) = some q := by
  rw [firstToRead?, sectorsAfter, List.find?_filter]
  refine RingSector.find?_all (by simp [hq, hslots]) fun p hp => ?_
  by_cases hrp : r.toNat < p.toNat
  · simp [hbetween p hrp hp]
  · simp [hrp]

theorem firstToRead_none {rs : List RingSector} (h : ∀ q ∈ rs, s.rebuildSlots q = 0) : s.firstToRead? rs = none :=
  List.find?_eq_none.2 fun q hq => by simp [h q hq]

theorem sectorsAfter_lt {q : RingSector} (h : q ∈ sectorsAfter r) : r.toNat < q.toNat := by
  simpa using (List.mem_filter.1 h).2

theorem rebuildFrom_reads {rs : List RingSector} {q : RingSector} (h : s.firstToRead? rs = some q) :
    s.rebuildFrom rs = s.beginScanRead (.rebuild q 1) (.ring q) 1 := by
  simp only [rebuildFrom, h]

theorem rebuildFrom_completes {rs : List RingSector} (h : s.firstToRead? rs = none) : s.rebuildFrom rs = s.completeStart := by
  simp only [rebuildFrom, h]

theorem restoredTariff_eq : s.restoredTariff =
    match s.config.live.globals.tariffSource, s.scan.newest with
    | .lines, _ => s.accum.tsel.filtered
    | .host, some p => p.2
    | .host, none => .t0 := by
  unfold restoredTariff
  cases s.config.live.globals.tariffSource with
  | lines => rfl
  | host => cases s.scan.newest <;> rfl

theorem recordsIn_eq (q : RingSector) : s.recordsIn q =
    (Channel.all.filter (fun c => ((s.store.map.get c).designated.map (fun d => d.location.sector)) == some q)).length := by
  unfold recordsIn
  congr 2
  funext c
  cases (s.store.map.get c).designated <;> rfl

end State

variable {s : State} {r : RingSector} {n : Nat} {bs : List Byte} {op : Operation}

theorem slotBytes_eq (k : Sector) (m : Nat) :
    s.slotBytes k m = Memory.readBytes s.array (k.toNat * 1024 + m * 32) 32 := by
  simp only [State.slotBytes, slotAddress, sectorSize, slotSize]

theorem exec_rebuildReadEnd (hop : s.store.op = some op) (hx : op.task = .scanRead) (hstep : s.scan.step = .rebuild r n)
    (hbs : Memory.readBytes s.array (op.sector.toNat * 1024 + op.slot * 32) 32 = bs) : exec .scanReadEnd s = .next
      (if n < s.rebuildSlots r then ((s.offered r n bs).setOp none).beginScanRead (.rebuild r (n + 1)) (.ring r) (n + 1)
      else ((s.offered r n bs).setOp none).rebuildFrom (sectorsAfter r)) := by
  have hend := exec_scanReadEnd hop hx
  rwa [scanReadEnd_rebuild (s := s.setOp none) hstep, slotBytes_eq, hbs, rebuildReadEnd_eq] at hend

theorem nextRead_changes (y : ScanStep) (k : Sector) (m : Nat) :
    Changes [.scan, .store] s (((s.offered r n bs).setOp none).beginScanRead y k m) :=
  (beginScanRead_changes ..).after (by decide) ((setOp_changes ..).after (by decide) (offered_changes.mono (by decide)))

/-! ## The settled obligation -/

/-- Settles O41: a read of REBUILD offers its record and begins the next read or completes START. -/
theorem rebuildTakesTheNewestAndEntersRun : Obligations.RebuildTakesTheNewestAndEntersRun := by
  unfold Obligations.RebuildTakesTheNewestAndEntersRun
  refine ⟨fun s op r n hop hx hstep hn => ?_, fun s op r n hop hx hstep hn => ?_⟩
  · dsimp only
    generalize hbs : Memory.readBytes s.array (op.sector.toNat * 1024 + op.slot * 32) 32 = bs
    have hend := exec_rebuildReadEnd hop hx hstep hbs
    rw [if_pos hn] at hend
    refine ⟨_, hend, rfl, rfl, nextRead_changes .., offered_table, fun hbs => ?_, fun x hbs => ⟨fun h => ?_, fun d hd h => ?_,
      fun c hc => ?_, fun h => ?_, fun p hp h => ?_⟩⟩
    · rw [offered_none hbs]
      exact ⟨rfl, rfl⟩
    · rw [offered_some hbs, offerRecord_eq]
      exact offeredMap_takes h
    · rw [offered_some hbs, offerRecord_eq]
      exact offeredMap_keeps hd h
    · rw [offered_some hbs, offerRecord_eq]
      exact offeredMap_other hc
    · rw [offered_some hbs, offerRecord_eq]
      exact offeredNewest_takes h
    · rw [offered_some hbs, offerRecord_eq]
      exact offeredNewest_keeps hp h
  · intro u
    obtain ⟨bytes, hbs⟩ : ∃ b, Memory.readBytes s.array (op.sector.toNat * 1024 + op.slot * 32) 32 = b := ⟨_, rfl⟩
    have hend := exec_rebuildReadEnd hop hx hstep hbs
    rw [if_neg (by omega)] at hend
    have hu : s.offered r n bytes = u := by
      cases hp : parseRecord bytes with
      | none =>
        rw [offered_none hp]
        simp only [u, hbs, hp]
      | some x =>
        rw [offered_some hp]
        simp only [u, hbs, hp]
    have hchanges := offered_changes (s := s) (r := r) (n := n) (bs := bytes)
    have hoffered : (s.offered r n bytes).store.table = s.store.table := offered_table
    rw [hu] at hend hchanges hoffered
    clear_value u
    clear hu
    have hslots : ∀ q, (u.setOp none).rebuildSlots q = s.rebuildSlots q := rebuildSlots_congr (t := u.setOp none)
      (hoffered)
    refine ⟨fun q hq hone hbetween => ?_, fun hall hpfail hj hqueue _ => ?_, fun hall hpfail hversion hrequests hj _ hreplies => ?_⟩
    · rw [rebuildFrom_reads (firstToRead_after hq (by rw [hslots]; exact hone) fun p hp hpq => by rw [hslots, hbetween p hp hpq])]
        at hend
      exact ⟨_, hend, rfl, rfl, (beginScanRead_changes ..).after (by decide)
        ((setOp_changes ..).after (by decide) (hchanges.mono (by decide)))⟩
    · rw [rebuildFrom_completes (firstToRead_none fun q hq => by rw [hslots, hall q (sectorsAfter_lt hq)])] at hend
      have hv : Changes [.store, .scan] s (u.setOp none) := (setOp_changes ..).after (by decide) hchanges
      have htable : (u.setOp none).store.table = s.store.table := hoffered
      have hmap : (u.setOp none).store.map = u.store.map := rfl
      have hscan : (u.setOp none).scan = u.scan := rfl
      generalize u.setOp none = v at *
      have h := completeStart_completed (s := v) (by rw [hv.power_eq, hpfail]) (by rw [hv.link_eq, hj])
        (by rw [hv.sched_eq, hqueue])
      have hsound : v.soundSectors = s.soundSectors := soundSectors_congr fun q => by rw [htable]
      refine ⟨_, hend, ?_, h.step, h.live, fun c => ⟨?_, ?_⟩, ?_, ?_, ?_, fun q => ⟨?_, ?_, ?_⟩, ?_, ?_, ?_, ?_, ?_, ?_, ?_⟩
      · rw [h.power, hv.power_eq]
      · rw [h.channel, hv.capture_eq, hmap]
      · rw [h.account, hmap]
      · rw [h.map, hmap]
      · rw [h.nextSequence, hscan] <;> rfl
      · rw [h.tariff, restoredTariff_eq, hv.config_eq, hv.accum_eq, hscan] <;> rfl
      · rw [h.entry, htable]
      · rw [h.entry, htable]
      · rw [h.entry, recordsIn_eq, hmap]
      · rw [h.exhausted, hsound]
      · rw [h.powerNotice, hv.notices_eq, hv.power_eq]
      · rw [h.configNotice, hv.notices_eq, hv.config_eq]
      · rw [h.storeNotice, hv.notices_eq, hsound]
      · rw [h.config, hv.config_eq]
      · rw [h.link, hv.link_eq]
      · rw [h.array, hv.array_eq]
    · rw [rebuildFrom_completes (firstToRead_none fun q hq => by rw [hslots, hall q (sectorsAfter_lt hq)])] at hend
      have hv : Changes [.store, .scan] s (u.setOp none) := (setOp_changes ..).after (by decide) hchanges
      have hmap : (u.setOp none).store.map = u.store.map := rfl
      have hop : (u.setOp none).store.op = none := rfl
      generalize u.setOp none = v at *
      have h := completeStart_retained (s := v) (by rw [hv.power_eq, hpfail]) hop (fun c => by rw [hmap, hversion])
        (by rw [hv.link_eq, hrequests]) (by rw [hv.link_eq, hj]) (by rw [hv.link_eq, hreplies])
      rw [hmap, hv.notices_eq, hv.power_eq, hv.link_eq, hv.array_eq] at h
      exact ⟨_, hend, h⟩

end Sys2Proof.Machine
end

section

-- One theorem at a time, as in the tests: many proofs elaborated at once each hold a thread's stack.
set_option Elab.async false

/-! RING_SCAN (R135 to R138) and obligation O40. -/

namespace Sys2Proof.Machine

open State

/-! ## A header's class -/

section

variable {bs : List Byte}

theorem slice_one (k : Nat) : slice bs k 1 = bs[k]?.toList := by
  rw [slice, ← List.head?_drop]
  cases bs.drop k <;> rfl

theorem readRetired_iff : readRetired bs = true ↔ bs[9]? ≠ some 0xFF := by
  rw [readRetired, retireOffset, slice_one]
  cases bs[9]? <;> simp

theorem readCount_worn_iff : (readCount bs).value?.any (fun v => decide (Config.wornCount ≤ v)) = true ↔
    ∃ v, readField bs 0 3 = .valid v ∧ 100000 ≤ v := by
  rw [readCount, countOffset]
  cases readField bs 0 3 with
  | valid v => exact decide_eq_true_iff.trans ⟨fun h => ⟨v, rfl, h⟩, fun ⟨_, hw, h⟩ => FieldReading.valid.inj hw ▸ h⟩
  | unwritten => exact ⟨nofun, nofun⟩
  | broken => exact ⟨nofun, nofun⟩

theorem readCount_value : (readCount bs).value? =
    match readField bs 0 3 with
    | .valid v => some v
    | _ => none := by
  rw [readCount, countOffset]
  cases readField bs 0 3 <;> rfl

theorem readEpoch_highest (m : Nat) : max m ((readEpoch bs).value?.getD 0) =
    match readField bs 4 4 with
    | .valid e => max m e
    | _ => m := by
  rw [readEpoch, epochOffset]
  cases readField bs 4 4
  · exact Nat.max_zero m
  · rfl
  · exact Nat.max_zero m

theorem classifyHeader_worn (h : ∃ v, readField bs 0 3 = .valid v ∧ 100000 ≤ v) : classifyHeader bs = .settled .worn := by
  rw [classifyHeader, readCount_worn_iff.2 h]

theorem classifyHeader_retiring (hworn : ¬ ∃ v, readField bs 0 3 = .valid v ∧ 100000 ≤ v) (h : bs[9]? ≠ some 0xFF) :
    classifyHeader bs = .settled .retiring := by
  rw [classifyHeader, Bool.eq_false_iff.2 (mt readCount_worn_iff.1 hworn), readRetired_iff.2 h]

/-- A header neither WORN nor RETIRING is classed by its epoch (R135). -/
theorem classifyHeader_epoch (hworn : ¬ ∃ v, readField bs 0 3 = .valid v ∧ 100000 ≤ v) (h : ¬ bs[9]? ≠ some 0xFF) :
    classifyHeader bs =
      match readField bs 4 4 with
      | .broken => .settled .spoiled
      | .valid e => .settled (.filled e)
      | .unwritten => .byContent := by
  rw [classifyHeader, Bool.eq_false_iff.2 (mt readCount_worn_iff.1 hworn), Bool.eq_false_iff.2 (mt readRetired_iff.1 h), readEpoch,
    epochOffset]
  cases readField bs 4 4 <;> rfl

end

theorem RingSector.next?_eq {r q : RingSector} (h : q.toNat = r.toNat + 1) : r.next? = some q := by
  cases r <;> cases q <;> first | rfl | exact absurd h (by decide)

/-! ## Highest counts -/

theorem foldl_max_le_iff {b : Nat} : ∀ {vs : List Nat} {a : Nat}, vs.foldl max a ≤ b ↔ a ≤ b ∧ ∀ v ∈ vs, v ≤ b
  | [], _ => by simp
  | w :: vs, a => by
    rw [List.foldl_cons, foldl_max_le_iff, Nat.max_le, List.forall_mem_cons, and_assoc]

theorem highestCount_eq {vs : List Nat} {m : Nat} (hm : m ∈ vs) (h : ∀ v ∈ vs, v ≤ m) : highestCount vs = m :=
  le_antisymm (foldl_max_le_iff.2 ⟨Nat.zero_le m, h⟩) ((foldl_max_le_iff.1 (le_refl (vs.foldl max 0))).2 m hm)

theorem settledCount_some {counts : PerRing (Option Nat)} {r : RingSector} {v : Nat} (h : counts.get r = some v) :
    settledCount counts r = v := by
  simp only [settledCount, h]

theorem settledCount_highest {counts : PerRing (Option Nat)} {r q : RingSector} {m : Nat} (h : counts.get r = none) (hq : q ≠ r)
    (hm : counts.get q = some m) (hall : ∀ p v, p ≠ r → counts.get p = some v → v ≤ m) :
    settledCount counts r = min 99999 m := by
  have hhighest := highestCount_eq (vs := (RingSector.all.filter (fun q => q != r)).filterMap (fun q => counts.get q)) (m := m)
    (List.mem_filterMap.2 ⟨q, List.mem_filter.2 ⟨q.mem_all, by simpa using hq⟩, hm⟩) fun v hv => by
      obtain ⟨p, hp, hpv⟩ := List.mem_filterMap.1 hv
      exact hall p v (by simpa using (List.mem_filter.1 hp).2) hpv
  simp only [settledCount, h, hhighest]
  rfl

theorem settledCount_none {counts : PerRing (Option Nat)} {r : RingSector} (h : counts.get r = none)
    (hall : ∀ q, q ≠ r → counts.get q = none) : settledCount counts r = 0 := by
  have hempty : (RingSector.all.filter (fun q => q != r)).filterMap (fun q => counts.get q) = [] :=
    List.filterMap_eq_nil_iff.2 fun p hp => hall p (by simpa using (List.mem_filter.1 hp).2)
  simp only [settledCount, h, hempty]
  rfl

/-! ## The best sector is found where there is one -/

theorem isSome_foldl_betterOf {better : RingSector → RingSector → Prop} [DecidableRel better] :
    ∀ (l : List RingSector) (b : RingSector), (l.foldl (betterOf better) (some b)).isSome = true
  | [], _ => rfl
  | r :: l, b => by
    rw [List.foldl_cons, betterOf]
    split <;> exact isSome_foldl_betterOf l _

theorem foldl_betterOf_eq_none {better : RingSector → RingSector → Prop} [DecidableRel better] {l : List RingSector}
    (h : l.foldl (betterOf better) none = none) : l = [] := by
  cases l with
  | nil => rfl
  | cons r l =>
    have hsome := isSome_foldl_betterOf (better := better) l r
    rw [show (l.foldl (betterOf better) (some r)) = none from h] at hsome
    cases hsome

namespace State

variable {s t u : State} {op : Operation} {r q : RingSector} {n e : Nat} {bs : List Byte} {x : SectorState}

/-! ## Placing a sector -/

/-- The state in which a header's fields are noted (R135, R137). -/
def headerTaken (s : State) (r : RingSector) (bs : List Byte) : State :=
  s.setScan
    { s.scan with
      counts := s.scan.counts.set r (readCount bs).value?
      highestEpoch := max s.scan.highestEpoch ((readEpoch bs).value?.getD 0) }

theorem headerReadEnd_settled (h : classifyHeader bs = .settled x) :
    s.headerReadEnd r bs = ((s.headerTaken r bs).setSectorState r x).nextHeader r := by
  simp only [headerReadEnd, h]
  rfl

theorem headerReadEnd_byContent (h : classifyHeader bs = .byContent) :
    s.headerReadEnd r bs = (s.headerTaken r bs).beginScanRead (.content r 1) (.ring r) 1 := by
  simp only [headerReadEnd, h]
  rfl

theorem contentReadEnd_spoiled (h : allFF bs = false) :
    s.contentReadEnd r n bs = (s.setSectorState r .spoiled).nextHeader r :=
  if_neg (by rw [h]; exact Bool.false_ne_true)

theorem contentReadEnd_next (h : allFF bs = true) (hn : n < 31) :
    s.contentReadEnd r n bs = s.beginScanRead (.content r (n + 1)) (.ring r) (n + 1) :=
  (if_pos h).trans (if_pos hn)

theorem contentReadEnd_erased (h : allFF bs = true) (hn : 31 ≤ n) :
    s.contentReadEnd r n bs = (s.setSectorState r .erased).nextHeader r :=
  (if_pos h).trans (if_neg (by omega))

/-- A sector that is not the last is placed and the next header's read begins (R134, R135). -/
theorem placed_next (hq : r.next? = some q) : (u.setSectorState r x).nextHeader r = (u.setSectorState r x).readHeader q := by
  simp only [nextHeader, hq]

theorem placed_last : (u.setSectorState .s15 x).nextHeader .s15 = (u.setSectorState .s15 x).secondPass := rfl

/-! ## The second pass -/

/-- The state in which counts and epochs are settled (R137). -/
def settled (s : State) : State :=
  s.setStore
    { s.store with
      table := PerRing.ofFn (fun r => { s.entry r with eraseCount := settledCount s.scan.counts r })
      highestEpoch := s.scan.highestEpoch }

theorem settled_entry (r : RingSector) : s.settled.store.table.get r =
    { s.store.table.get r with eraseCount := settledCount s.scan.counts r } :=
  PerRing.get_ofFn ..

theorem settled_state (r : RingSector) : (s.settled.store.table.get r).state = (s.store.table.get r).state := by
  rw [settled_entry]

theorem secondPass_head (h : s.settled.headSector? = some r) :
    s.secondPass = s.settled.beginScanRead (.head r (s.settled.filledEpoch r) 31) (.ring r) 31 := by
  rw [settled] at h
  simp only [secondPass, h]
  rfl

theorem secondPass_none (h : s.settled.headSector? = none) : s.secondPass = s.settled.rebuildFrom RingSector.all := by
  rw [settled] at h
  simp only [secondPass, h]
  rfl

/-! ## The head -/

theorem filledEpoch_of (h : (s.store.table.get r).state = .filled e) : s.filledEpoch r = e := by
  simp only [filledEpoch, entry, h]

theorem headSector?_eq : s.headSector? =
    (RingSector.all.filter (fun r => (s.store.table.get r).state.isFilled)).foldl
      (betterOf fun r b => s.filledEpoch b < s.filledEpoch r) none := rfl

/-- The head is the sector of the highest epoch, the lowest number among equals (R138). -/
theorem headSector?_of (h : (s.store.table.get r).state = .filled e)
    (hbest : ∀ q e', (s.store.table.get q).state = .filled e' → e' < e ∨ (e' = e ∧ r.toNat ≤ q.toNat)) :
    s.headSector? = some r := by
  have hbetter : ∀ q : RingSector, (s.store.table.get q).state.isFilled = true →
      s.filledEpoch q < e ∨ (s.filledEpoch q = e ∧ r.toNat ≤ q.toNat) := fun q hq => by
    cases hstate : (s.store.table.get q).state with
    | filled e' =>
      rw [filledEpoch_of hstate]
      exact hbest q e' hstate
    | _ =>
      rw [hstate] at hq
      cases hq
  rw [headSector?_eq]
  refine RingSector.foldl_betterOf (by rw [h]; rfl) (fun q hq hfilled => ?_) fun q hq hfilled => ?_
  · have := hbetter q hfilled
    rw [filledEpoch_of h]
    omega
  · have := hbetter q hfilled
    rw [filledEpoch_of h]
    omega

theorem headSector?_isNone (h : s.headSector? = none) (r : RingSector) : (s.store.table.get r).state ≠ .filled e := fun hr => by
  rw [headSector?_eq] at h
  have hempty := List.filter_eq_nil_iff.1 (foldl_betterOf_eq_none h) r r.mem_all
  rw [hr] at hempty
  exact hempty rfl

theorem headSector?_none (h : ∀ r e, (s.store.table.get r).state ≠ .filled e) : s.headSector? = none := by
  rw [headSector?_eq]
  refine RingSector.foldl_betterOf_none fun r => ?_
  cases hstate : (s.store.table.get r).state with
  | filled e => exact absurd hstate (h r e)
  | _ => rfl

/-! ## REBUILD's beginning -/

theorem rebuildSlots_eq : s.rebuildSlots r =
    match (s.store.table.get r).state with
    | .opened _ n => n - 1
    | .filled _ => 31
    | _ => 0 := by
  rw [rebuildSlots, entry]
  cases (s.store.table.get r).state <;> rfl

theorem firstToRead_all (hq : 1 ≤ s.rebuildSlots q) (hbefore : ∀ p : RingSector, p.toNat < q.toNat → s.rebuildSlots p = 0) :
    s.firstToRead? RingSector.all = some q :=
  RingSector.find?_all (by simpa using hq) fun p hp => by simp [hbefore p hp]

theorem scanReadEnd_header (h : s.scan.step = .header r) : s.scanReadEnd bs = s.headerReadEnd r bs := by
  simp only [scanReadEnd, h]

theorem scanReadEnd_content (h : s.scan.step = .content r n) : s.scanReadEnd bs = s.contentReadEnd r n bs := by
  simp only [scanReadEnd, h]

theorem scanReadEnd_head (h : s.scan.step = .head r e n) : s.scanReadEnd bs = s.headReadEnd r e n bs := by
  simp only [scanReadEnd, h]

end State

end Sys2Proof.Machine
end

section

-- One theorem at a time, as in the tests: many proofs elaborated at once each hold a thread's stack.
set_option Elab.async false

/-! What each read of RING_SCAN leaves, and obligation O40. -/

namespace Sys2Proof.Machine

open State

namespace State

variable {s t u v w : State} {op : Operation} {r q h : RingSector} {n e m : Nat} {bs : List Byte} {x : SectorState}

/-! ## The first pass -/

theorem headerTaken_changes : Changes [.scan, .store] s ((s.setOp none).headerTaken r bs) :=
  (setScan_changes ..).after (by decide) ((setOp_changes ..).mono (by decide))

theorem setSectorState_table : (u.setSectorState r x).store.table =
    u.store.table.set r { u.store.table.get r with state := x } := rfl

theorem placed_spec (hu : Changes [.scan, .store] s u) (htable : u.store.table = s.store.table) (hq : r.next? = some q)
    (ht : (u.setSectorState r x).nextHeader r = t) :
    t.store.table = s.store.table.set r { s.store.table.get r with state := x } ∧
      t.scan.step = .header q ∧
        t.store.op = some
          { task := .scanRead, sector := .ring q, slot := 0, offset := 0, bytes := [], aborting := false } ∧
        Changes [.scan, .store] s t := by
  rw [placed_next hq] at ht
  subst ht
  refine ⟨?_, rfl, rfl, (readHeader_changes ..).after (by decide) ((setSectorState_changes ..).after (by decide) hu)⟩
  rw [← htable]
  rfl

theorem headerReadEnd_scan (hq : r.next? = some q) :
    ((s.setOp none).headerReadEnd r bs).scan.counts = s.scan.counts.set r (readCount bs).value? ∧
      ((s.setOp none).headerReadEnd r bs).scan.highestEpoch = max s.scan.highestEpoch ((readEpoch bs).value?.getD 0) := by
  cases hclass : classifyHeader bs with
  | settled x =>
    rw [headerReadEnd_settled hclass, placed_next hq]
    exact ⟨rfl, rfl⟩
  | byContent =>
    rw [headerReadEnd_byContent hclass]
    exact ⟨rfl, rfl⟩

/-! ## START completes -/

/-- START completes where no sector has slots to read (R139, R144). -/
theorem completes_of_none {states : RingSector → SectorState} (hv : Changes [.scan, .store] s v)
    (hstates : ∀ r, (v.store.table.get r).state = states r) (hnone : ∀ r, v.rebuildSlots r = 0)
    (hpfail : s.power.pfailFiltered = false) (hj : s.link.jobs = []) (hqueue : s.sched.queue = []) :
    StartCompleted v (v.rebuildFrom RingSector.all) ∧ (v.rebuildFrom RingSector.all).scan.step = .done ∧
      (v.rebuildFrom RingSector.all).power.device = .run ∧
      ∀ r, ((v.rebuildFrom RingSector.all).store.table.get r).state = states r := by
  rw [rebuildFrom_completes (firstToRead_none fun r _ => hnone r)]
  have hcompleted := completeStart_completed (s := v) (by rw [hv.power_eq, hpfail]) (by rw [hv.link_eq, hj])
    (by rw [hv.sched_eq, hqueue])
  refine ⟨hcompleted, hcompleted.step, by rw [hcompleted.power], fun r => ?_⟩
  rw [hcompleted.entry, ← hstates r]

/-! ## The second pass -/

theorem settled_changes : Changes [.scan, .store] s s.settled := (setStore_changes ..).mono (by decide)

/-- What the second pass leaves at the head's read (R137, R138). -/
theorem secondPass_reads (hhead : v.settled.headSector? = some h) (he : (v.store.table.get h).state = .filled e) :
    v.secondPass.scan.step = .head h e 31 ∧
      v.secondPass.store.op = some
        { task := .scanRead, sector := .ring h, slot := 31, offset := 0, bytes := [], aborting := false } ∧
      v.secondPass.store.highestEpoch = v.scan.highestEpoch := by
  rw [secondPass_head hhead, filledEpoch_of (s := v.settled) (by rw [settled_state, he])]
  exact ⟨rfl, rfl, rfl⟩

theorem secondPass_entry (hhead : v.settled.headSector? = some h) (r : RingSector) : v.secondPass.store.table.get r =
    { v.store.table.get r with eraseCount := settledCount v.scan.counts r } := by
  rw [secondPass_head hhead]
  exact settled_entry r

theorem rebuildSlots_eq_zero (hr : (v.store.table.get r).state.isInUse = false) : v.rebuildSlots r = 0 := by
  rw [rebuildSlots, entry, hr]
  rfl

theorem isInUse_of_filled (hr : (v.store.table.get r).state = .filled e) : (v.store.table.get r).state.isInUse = true := by
  rw [hr]
  rfl

/-- START completes where no sector is in use (R138, R144). -/
theorem secondPass_completes (hv : Changes [.scan, .store] s v) (hidle : ∀ r, (v.store.table.get r).state.isInUse = false)
    (hpfail : s.power.pfailFiltered = false) (hj : s.link.jobs = []) (hqueue : s.sched.queue = []) :
    v.secondPass.scan.step = .done ∧ v.secondPass.power.device = .run ∧
      (∀ r, (v.secondPass.store.table.get r).state = (v.store.table.get r).state) ∧
      v.secondPass.store.highestEpoch = v.scan.highestEpoch ∧
      ∀ r, (v.secondPass.store.table.get r).eraseCount = settledCount v.scan.counts r := by
  have hnone : v.settled.headSector? = none := headSector?_none fun r e hr => by
    have hused := isInUse_of_filled (settled_state (s := v) r ▸ hr)
    rw [hidle] at hused
    cases hused
  rw [secondPass_none hnone]
  obtain ⟨hcompleted, hstep, hdevice, hstates⟩ := completes_of_none (v := v.settled)
    (settled_changes.after (by decide) hv) (fun r => settled_state r)
    (fun r => rebuildSlots_eq_zero (by rw [settled_state, hidle])) hpfail hj hqueue
  refine ⟨hstep, hdevice, hstates, hcompleted.highestEpoch, fun r => ?_⟩
  rw [hcompleted.entry, settled_entry]

/-- The second pass after the last sector is placed (R137, R138). -/
theorem secondPass_spec {counts : PerRing (Option Nat)} {epoch : Nat} {states : RingSector → SectorState}
    (hv : Changes [.scan, .store] s v) (hstates : ∀ r, (v.store.table.get r).state = states r) (hcounts : v.scan.counts = counts)
    (hepoch : v.scan.highestEpoch = epoch) (hfilled : ∀ r, (states r).isInUse = true → ∃ e, states r = .filled e) :
    (∀ h e, states h = .filled e → (∀ r e', states r = .filled e' → e' < e ∨ (e' = e ∧ h.toNat ≤ r.toNat)) →
      (v.secondPass.scan.step = .head h e 31 ∧
        v.secondPass.store.op = some
          { task := .scanRead, sector := .ring h, slot := 31, offset := 0, bytes := [], aborting := false }) ∧
      v.secondPass.store.highestEpoch = epoch ∧ ∀ r, (v.secondPass.store.table.get r).state = states r) ∧
    ((∀ r, (states r).isInUse = false) → s.power.pfailFiltered = false → s.link.jobs = [] → s.sched.queue = [] →
      (v.secondPass.scan.step = .done ∧ v.secondPass.power.device = .run ∧
        ∀ r, (v.secondPass.store.table.get r).state = states r) ∧ v.secondPass.store.highestEpoch = epoch) ∧
    (((∃ h e, states h = .filled e) ∨ (s.power.pfailFiltered = false ∧ s.link.jobs = [] ∧ s.sched.queue = [])) →
      ∀ r, (v.secondPass.store.table.get r).eraseCount = settledCount counts r) := by
  subst hcounts hepoch
  refine ⟨fun h e he hbest => ?_, fun hidle hpfail hj hqueue => ?_, fun hready r => ?_⟩
  · have hhead : v.settled.headSector? = some h := headSector?_of (by rw [settled_state, hstates, he]) fun q e' hq =>
      hbest q e' (by rw [← hstates, ← settled_state, hq])
    obtain ⟨hstep, hop, hepoch⟩ := secondPass_reads hhead (by rw [hstates, he])
    exact ⟨⟨hstep, hop⟩, hepoch, fun r => by rw [secondPass_entry hhead, ← hstates r]⟩
  · obtain ⟨hstep, hdevice, hstate, hepoch, -⟩ := secondPass_completes hv (fun r => by rw [hstates, hidle]) hpfail hj hqueue
    exact ⟨⟨hstep, hdevice, fun r => by rw [hstate, hstates]⟩, hepoch⟩
  · cases hhead : v.settled.headSector? with
    | some h => rw [secondPass_entry hhead]
    | none =>
      have hnofill : ∀ q e, states q ≠ .filled e := fun q e hq =>
        headSector?_isNone hhead q (by rw [settled_state, hstates, hq])
      have hidle : ∀ q, (v.store.table.get q).state.isInUse = false := fun q => by
        rw [hstates, Bool.eq_false_iff]
        exact fun hused => (hfilled q hused).elim fun e he => hnofill q e he
      obtain ⟨h, e, he⟩ | ⟨hpfail, hj, hqueue⟩ := hready
      · exact absurd he (hnofill h e)
      · obtain ⟨-, -, -, -, hcount⟩ := secondPass_completes hv hidle hpfail hj hqueue
        exact hcount r

/-! ## The head's slots -/

theorem headReadEnd_next (hbs : allFF bs = true) (hn : 1 < n) :
    s.headReadEnd r e n bs = s.beginScanRead (.head r e (n - 1)) (.ring r) (n - 1) :=
  (if_pos hbs).trans (if_pos hn)

theorem headReadEnd_found (hm : (allFF bs = true ∧ n ≤ 1 ∧ m = 1) ∨ (allFF bs = false ∧ m = n + 1)) :
    s.headReadEnd r e n bs = (s.setSectorState r (.opened e m)).rebuildFrom RingSector.all := by
  obtain ⟨hbs, hn, rfl⟩ | ⟨hbs, rfl⟩ := hm
  · exact (if_pos hbs).trans (if_neg (by omega))
  · exact if_neg (by rw [hbs]; exact Bool.false_ne_true)

end State

/-- Where a cut erase's bytes are as START finds them SPOILED or ERASED, the header says so (R98, R130). -/
theorem erasedOrSpoiled_header {bs : List Byte} (h : erasedOrSpoiled bs = true) :
    (∀ b ∈ bs, b = 0xFF) ∨
      (bs[9]? = some 0xFF ∧ (∀ v, readField bs 0 3 = .valid v → v < 100000) ∧
        (readField bs 4 4 = .broken ∨ (readField bs 4 4 = .unwritten ∧ ∃ b ∈ bs.drop 32, b ≠ 0xFF))) := by
  have hslice : ∀ k m, k + m ≤ 32 → slice (bs.take 32) k m = slice bs k m := fun k m hk => by
    rw [slice, slice, List.drop_take, List.take_take, Nat.min_eq_left (by omega)]
  have hfield : ∀ k m, k + m + 1 ≤ 32 → readField (bs.take 32) k m = readField bs k m := fun k m hk => by
    rw [readField, readField, field, field, hslice k (m + 1) (by omega), hslice (k + m) 1 (by omega), hslice k m (by omega)]
  have hnine : (bs.take 32)[9]? = bs[9]? := List.getElem?_take_of_lt (by decide)
  have hclasses : allFF bs = true ∨ classifyHeader (bs.take 32) = .settled .spoiled ∨
      (classifyHeader (bs.take 32) = .byContent ∧ allFF (bs.drop 32) = false) := by
    unfold erasedOrSpoiled slotSize at h
    cases hall : allFF bs with
    | true => exact .inl rfl
    | false =>
      rw [hall, Bool.false_or] at h
      cases hclass : classifyHeader (bs.take 32) with
      | settled x =>
        rw [hclass] at h
        exact .inr (.inl (congrArg _ (by simpa using h)))
      | byContent =>
        rw [hclass] at h
        exact .inr (.inr ⟨rfl, by simpa using h⟩)
  obtain hall | hclass := hclasses
  · exact .inl fun b hb => by simpa using List.all_eq_true.1 hall b hb
  · have hworn : ¬ ∃ v, readField bs 0 3 = .valid v ∧ 100000 ≤ v := fun hw => by
      rw [classifyHeader_worn (by rwa [hfield 0 3 (by decide)])] at hclass
      simp at hclass
    have hretired : ¬ bs[9]? ≠ some 0xFF := fun hr => by
      rw [classifyHeader_retiring (by rwa [hfield 0 3 (by decide)]) (by rwa [hnine])] at hclass
      simp at hclass
    rw [classifyHeader_epoch (by rwa [hfield 0 3 (by decide)]) (by rwa [hnine]), hfield 4 4 (by decide)] at hclass
    refine .inr ⟨not_not.1 hretired, fun v hv => Nat.lt_of_not_le fun hle => hworn ⟨v, hv, hle⟩, ?_⟩
    cases hepoch : readField bs 4 4 with
    | broken => exact .inl rfl
    | valid e =>
      rw [hepoch] at hclass
      simp at hclass
    | unwritten =>
      rw [hepoch] at hclass
      obtain hclass | ⟨-, hrest⟩ := hclass
      · cases hclass
      · refine .inr ⟨rfl, ?_⟩
        simpa [allFF] using hrest

variable {s t : State} {op : Operation} {r : RingSector}

/-- The erase of a ring sector cut by a RESET, a loss of supply or FLUSH entry leaves what START finds SPOILED or ERASED (R98, R130). -/
theorem cutErase_erasedOrSpoiled (hs : ArrayLaw s) (hop : s.store.op = some op) (hx : op.task = .ringErase)
    (hk : op.sector = .ring r)
    (hcut : (exec .resetLineActive s = .next t ∧ s.supply.powered = true ∧ s.supply.resetLine = false) ∨
      (exec .supplyLoss s = .next t ∧ s.supply.powered = true) ∨
      (exec (.eraseEnd .aborted) s = .next t ∧ op.aborting = true)) :
    erasedOrSpoiled (Memory.readBytes t.array (slotAddress (.ring r) 0) sectorSize) = true := by
  have htorn : (exec .resetLineActive s = .next t ∧ s.supply.powered = true ∧ s.supply.resetLine = false) ∨
      (exec .supplyLoss s = .next t ∧ s.supply.powered = true) →
      erasedOrSpoiled (Memory.readBytes t.array (slotAddress (.ring r) 0) sectorSize) = true := fun htear => by
    obtain ⟨u, harray, hstore, htu⟩ := exists_tear htear
    rw [htu]
    exact tear_erasedOrSpoiled (s := u) (by rw [harray]; exact hs) (by rw [hstore, hop]) hx hk
  obtain hreset | hloss | ⟨hexec, haborting⟩ := hcut
  · exact htorn (.inl hreset)
  · exact htorn (.inr hloss)
  · rw [exec_eraseEnd hop hx (by simp [haborting])] at hexec
    rw [← Host.Outcome.next.inj hexec, (arbiter_changes _).array_eq, (eraseEnd_changes _ _).array_eq]
    exact endErase_aborted_erasedOrSpoiled hs hk

/-! ## The settled obligation -/

/-- Settles O40: RING_SCAN's reads by the header's class, the second pass and the head's slots; a cut erase by what it leaves. -/
theorem ringScanClassifiesAndSettles : Obligations.RingScanClassifiesAndSettles := by
  unfold Obligations.RingScanClassifiesAndSettles
  refine ⟨fun s op r q hop hx hq => ?_, fun s op hop hx => ?_, fun s t op r hs hop hx hk hcut => ?_⟩
  · have hend := exec_scanReadEnd hop hx
    rw [slotBytes_eq] at hend
    dsimp only
    generalize Memory.readBytes s.array (op.sector.toNat * 1024 + op.slot * 32) 32 = bs at hend ⊢
    have hnext := RingSector.next?_eq hq
    have hidle : Changes [.scan, .store] s (s.setOp none) := (setOp_changes ..).mono (by decide)
    refine ⟨_, hend, fun hstep => ?_, fun n hstep => ?_⟩
    · rw [scanReadEnd_header (s := s.setOp none) hstep]
      obtain ⟨hcounts, hhighest⟩ := headerReadEnd_scan (s := s) (bs := bs) hnext
      refine ⟨fun hworn => ?_, fun hworn hretired => ?_, fun hworn hretired hbroken => ?_, fun e hworn hretired hvalid => ?_,
        fun hworn hretired hunwritten => ?_, ?_, ?_⟩
      · exact placed_spec headerTaken_changes rfl hnext (headerReadEnd_settled (classifyHeader_worn hworn)).symm
      · exact placed_spec headerTaken_changes rfl hnext (headerReadEnd_settled (classifyHeader_retiring hworn hretired)).symm
      · exact placed_spec headerTaken_changes rfl hnext
          (headerReadEnd_settled (by rw [classifyHeader_epoch hworn hretired, hbroken])).symm
      · exact placed_spec headerTaken_changes rfl hnext
          (headerReadEnd_settled (by rw [classifyHeader_epoch hworn hretired, hvalid])).symm
      · rw [headerReadEnd_byContent (by rw [classifyHeader_epoch hworn hretired, hunwritten])]
        exact ⟨rfl, rfl, rfl, (beginScanRead_changes ..).after (by decide) headerTaken_changes⟩
      · rw [hcounts, PerRing.get_set_self, readCount_value] <;> rfl
      · rw [hhighest, readEpoch_highest] <;> rfl
    · rw [scanReadEnd_content (s := s.setOp none) hstep]
      refine ⟨fun hbs => ?_, fun hbs hn => ?_, fun hbs hn => ?_⟩
      · exact placed_spec hidle rfl hnext (contentReadEnd_spoiled hbs).symm
      · rw [contentReadEnd_next hbs hn]
        exact ⟨rfl, rfl, rfl, (beginScanRead_changes ..).after (by decide) hidle⟩
      · exact placed_spec hidle rfl hnext (contentReadEnd_erased hbs hn).symm
  · have hend := exec_scanReadEnd hop hx
    rw [slotBytes_eq] at hend
    dsimp only
    generalize Memory.readBytes s.array (op.sector.toNat * 1024 + op.slot * 32) 32 = bs at hend ⊢
    have hidle : Changes [.scan, .store] s (s.setOp none) := (setOp_changes ..).mono (by decide)
    refine ⟨fun x counts epoch hlast hfilled => ?_, fun h e n hstep hbs hn => ?_, fun h e n m hstep hm => ?_⟩
    · obtain ⟨u, hu, htable, hcounts, hepoch, hlast⟩ : ∃ u, Changes [.scan, .store] s u ∧ u.store.table = s.store.table ∧
          u.scan.counts = counts ∧ u.scan.highestEpoch = epoch ∧
          (s.setOp none).scanReadEnd bs = (u.setSectorState .s15 x).nextHeader .s15 := by
        obtain ⟨n, hstep, hcounts, hepoch, hbs⟩ | ⟨hstep, hclass, hcounts, hepoch⟩ := hlast
        · refine ⟨s.setOp none, hidle, rfl, hcounts.symm, hepoch.symm, ?_⟩
          rw [scanReadEnd_content (s := s.setOp none) hstep]
          obtain ⟨hbs, rfl⟩ | ⟨hbs, hn, rfl⟩ := hbs
          · exact contentReadEnd_spoiled hbs
          · exact contentReadEnd_erased hbs hn
        · refine ⟨(s.setOp none).headerTaken .s15 bs, headerTaken_changes, rfl, ?_, ?_, ?_⟩
          · rw [hcounts, headerTaken, setScan_scan, readCount_value] <;> rfl
          · rw [hepoch, headerTaken, setScan_scan, readEpoch_highest] <;> rfl
          · rw [scanReadEnd_header (s := s.setOp none) hstep]
            exact headerReadEnd_settled hclass
      rw [hlast, placed_last] at hend
      have hv : Changes [.scan, .store] s (u.setSectorState .s15 x) := (setSectorState_changes ..).after (by decide) hu
      have hstates : ∀ r, ((u.setSectorState .s15 x).store.table.get r).state =
          if r = .s15 then x else (s.store.table.get r).state := fun r => by
        rw [setSectorState_table, htable, PerRing.get_set]
        split <;> rfl
      obtain ⟨hreads, hcompletes, hsettles⟩ := secondPass_spec hv hstates (counts := counts) (epoch := epoch) hcounts hepoch hfilled
      refine ⟨_, hend, hreads, fun hnone => ⟨fun hpfail hj hqueue _ => ?_, fun hpfail hj hqueue _ => ?_⟩, fun hready r =>
        ⟨fun v hv => ?_, fun hr => ⟨fun q m hq hm hall => ?_, fun hall => ?_⟩⟩⟩
      · exact (hcompletes hnone hpfail hj hqueue).1
      · exact (hcompletes hnone hpfail hj hqueue).2
      all_goals
        rw [hsettles (hready.imp_right fun ⟨hpfail, hj, hqueue, _⟩ => ⟨hpfail, hj, hqueue⟩) r]
      · exact settledCount_some hv
      · exact settledCount_highest hr hq hm hall
      · exact settledCount_none hr hall
    · rw [scanReadEnd_head (s := s.setOp none) hstep, headReadEnd_next hbs hn] at hend
      exact ⟨_, hend, rfl, rfl⟩
    · rw [scanReadEnd_head (s := s.setOp none) hstep, headReadEnd_found hm] at hend
      have hv : Changes [.scan, .store] s ((s.setOp none).setSectorState h (.opened e m)) :=
        (setSectorState_changes ..).after (by decide) hidle
      have hstates : ∀ r, (((s.setOp none).setSectorState h (.opened e m)).store.table.get r).state =
          if r = h then .opened e m else (s.store.table.get r).state := fun r => by
        rw [setSectorState_table, PerRing.get_set]
        split <;> rfl
      generalize (s.setOp none).setSectorState h (.opened e m) = v at *
      have hslots : ∀ r, v.rebuildSlots r =
          match (if r = h then SectorState.opened e m else (s.store.table.get r).state) with
          | .opened _ n => n - 1
          | .filled _ => 31
          | _ => 0 := fun r => by
        rw [rebuildSlots_eq, hstates] <;> rfl
      refine ⟨_, hend, fun q hq hbefore => ?_, fun hnone hpfail hj hqueue _ => ?_⟩
      · rw [rebuildFrom_reads (firstToRead_all ((hslots q).symm ▸ hq) fun p hp => (hslots p).trans (hbefore p hp))]
        exact ⟨⟨rfl, rfl⟩, hstates⟩
      · exact (completes_of_none hv hstates (fun r => (hslots r).trans (hnone r)) hpfail hj hqueue).2
  · have hbytes := cutErase_erasedOrSpoiled hs hop hx hk hcut
    rw [slotAddress_zero] at hbytes
    exact erasedOrSpoiled_header hbytes

end Sys2Proof.Machine
end
